-- ==== Sys2Proof/Word.lean ====
section
/-! DEFINITION. The word types of the Selector core: the byte, the 16-bit operation word, the logical port index
and the two-valued side. The hardware has no arithmetic beyond bytewise Boolean operators (spec/00_scope.md R13). -/

namespace Sys2Proof

/-- A byte, bit 7 the most significant (R12). -/
abbrev Byte := BitVec 8

/-- The 16-bit operation word of format `W`, the status word and the packed descriptor (R90, R97, R85). -/
abbrev Word16 := BitVec 16

/-- A logical port index 0..7 (R8). -/
abbrev Port := Fin 8

/-- A bit position 0..7 inside a bank byte (R51). -/
abbrev BitPos := Fin 8

/-- `Side` has two values, FIRST and SECOND (R84); it names a branch of the two-way switch and an instance of the
four-way switch. -/
inductive Side where
  | first
  | second
deriving DecidableEq, Repr, Inhabited

end Sys2Proof
end

