-- ==== Sys2Proof/Config.lean ====
section
/-! DEFINITION. What an implementation fixes (the parameters of R11) as plain data, the answers of the two oracles, and the
free values: opaque constants without a body, applied to a counter that State holds, for everything the spec leaves
unspecified. -/

namespace Sys2Proof

/-- A PortDescriptor: one immutable record per logical port (R33). -/
structure PortDescriptor where
  /-- The logical port it describes. -/
  index : Port
  /-- "which input-bank bit signals this port's switch" -/
  inputBit : BitPos
  /-- "which output-bank bit drives this port's LED" -/
  outputBit : BitPos
  /-- "which of the two 4-way switches serves this port" -/
  muxSide : Side
  /-- The selection of that four-way switch, in [0,3]. -/
  muxSelect : BitVec 2
  /-- The branch of the two-way switch. -/
  twoWaySide : Side
  /-- The decoder address, in [0,7]. -/
  decoderAddress : BitVec 3
deriving DecidableEq, Repr, Inhabited

/-- The Port Table `PT`: the descriptors of ports 0 to 7, one field each (R9, R33). -/
structure PortTable where
  p0 : PortDescriptor
  p1 : PortDescriptor
  p2 : PortDescriptor
  p3 : PortDescriptor
  p4 : PortDescriptor
  p5 : PortDescriptor
  p6 : PortDescriptor
  p7 : PortDescriptor
deriving DecidableEq, Repr, Inhabited

/-- `RESET_SEL`: the values RESET writes to `tw.side`, `mux[FIRST].sel`, `mux[SECOND].sel` and `dec.addr` (R11, D13). -/
structure ResetSel where
  tw : Side
  mux0 : BitVec 2
  mux1 : BitVec 2
  dec : BitVec 3
deriving DecidableEq, Repr, Inhabited

/-- `EN_POL[dev]`: the physical level of each device's enable line when the device is enabled (R11, R97, D12). -/
structure EnPol where
  tw : Bool
  mux0 : Bool
  mux1 : Bool
  dec : Bool
deriving DecidableEq, Repr, Inhabited

/-- The parameters of the model (R11). They are fixed for a machine: no step changes them. -/
structure Params where
  /-- `PT` -/
  table : PortTable
  /-- `RESET_SEL` -/
  resetSel : ResetSel
  /-- `EN_POL` -/
  enPol : EnPol
  /-- `T_DEBOUNCE`, a positive duration in an unstated unit; no rule reads it (R10). -/
  tDebounce : Nat
  /-- `T_SETTLE`, a positive duration in an unstated unit; no rule reads it (R10). -/
  tSettle : Nat
deriving DecidableEq, Repr, Inhabited

/-- The answer of `BusOracle` to one bus transaction: it completes or it fails, nothing else (R11, R70). -/
inductive BusAnswer where
  | ok
  | busfail
deriving DecidableEq, Repr, Inhabited

/-- The answer of `PanelOracle` to one read of the input bank (R11, R111). A successful read returns a free byte (`ok`), or,
under the environment model of R56, the level of the panel at the moment of the read (`level`). `notice` says what becomes
of the notification the read itself raises when it clears a set latch (R56, R57): `some n` adds an IRQ request at place `n` of
the waiting ones, `none` merges it with one that waits already and, with none waiting, adds it at the end (how many are kept is
open, R221, notes/assumptions 9). -/
inductive ReadAnswer where
  | ok (b : Byte) (notice : Option Nat)
  | level (notice : Option Nat)
  | busfail
deriving DecidableEq, Repr, Inhabited

namespace Config

/-- FREE VALUE: what the bus answers when no answer is listed (`BusOracle`, D17). -/
opaque freeBus : Nat → BusAnswer

/-- FREE VALUE: what an input-bank read answers when no answer is listed (`PanelOracle`, D16). -/
opaque freeRead : Nat → ReadAnswer

/-- FREE VALUE: an unspecified Boolean (`intLatch`, enables before RESET: U1, U5, U11). -/
opaque freeBool : Nat → Bool

/-- FREE VALUE: an unspecified byte (`led` after a failed write, `lastSample` after a failed RESET: U4, U5, U11). -/
opaque freeByte : Nat → Byte

/-- FREE VALUE: an unspecified branch of the two-way switch (U1, U11). -/
opaque freeSide : Nat → Side

/-- FREE VALUE: an unspecified four-way selection (U1, U11). -/
opaque freeSel : Nat → BitVec 2

/-- FREE VALUE: an unspecified decoder address (U1, U11). -/
opaque freeAddr : Nat → BitVec 3

/-- FREE VALUE: an unspecified port (`tgt` where R43 leaves it open). -/
opaque freePort : Nat → Port

/-- FREE VALUE: an unspecified `activePort` (U1, U11). -/
opaque freeActive : Nat → Option Port

end Config

end Sys2Proof
end

