-- ==== Sys2Proof/Syntax.lean ====
section
/-! DEFINITION. The operations of the Selector core: the six public operations and the sixteen micro-operations, one
constructor per row of spec/opcode_table.json (R95). -/

namespace Sys2Proof

/-- An operation. -/
inductive Instr where
  /-- SELECT idx: `selectPort(idx)`; the index is any integer (R82, R150). -/
  | select (idx : Int)
  /-- DISCONNECT: the public `disconnectAll()` (R151). -/
  | disconnect
  /-- STATUS: `statusSnapshot()` (R200). -/
  | status
  /-- IRQ: the panel-change interrupt handler (R185). -/
  | irq
  /-- RESET: startup (R203). -/
  | reset
  /-- HALT: forced termination (R206). -/
  | halt
  /-- TW_DISABLE: open the shared data path (R120). -/
  | twDisable
  /-- TW_ENABLE: close the shared data path (R121). -/
  | twEnable
  /-- TW_ROUTE s: choose the branch of the two-way switch (R122). -/
  | twRoute (side : Side)
  /-- MUX_DISABLE m: disable four-way switch `m` (R123). -/
  | muxDisable (m : Side)
  /-- MUX_ENABLE m: enable four-way switch `m` (R124). -/
  | muxEnable (m : Side)
  /-- MUX_SELECT m, n: set the selection of four-way switch `m` (R125). -/
  | muxSelect (m : Side) (n : BitVec 2)
  /-- DEC_DISABLE: de-assert all power-enable lines (R126). -/
  | decDisable
  /-- DEC_ENABLE: assert the addressed power-enable line (R127). -/
  | decEnable
  /-- DEC_ADDR a: set the decoder address (R128). -/
  | decAddr (a : BitVec 3)
  /-- EXP_INIT: initialise the Expander Port (R110). -/
  | expInit
  /-- EXP_READ: read the input bank (R111). -/
  | expRead
  /-- EXP_WRITE b: write the output bank (R112). -/
  | expWrite (b : Byte)
  /-- WAIT_DEBOUNCE: let `T_DEBOUNCE` elapse (R131). -/
  | waitDebounce
  /-- WAIT_SETTLE: let `T_SETTLE` elapse (R132). -/
  | waitSettle
  /-- SET_ACTIVE v: write `activePort`; `none` is NONE (R134). -/
  | setActive (v : Option Port)
  /-- SET_SAMPLE b: write `lastSample` (R135). -/
  | setSample (b : Byte)
deriving DecidableEq, Repr

end Sys2Proof
end

