-- ==== Sys2Proof/WellFormed.lean ====
section
/-! DEFINITION. Which operations have a word. Every operand but SELECT's index is exact by its type; the word form of SELECT
holds a signed byte (R91). -/

namespace Sys2Proof

/-- The operation has a word: SELECT's index fits the signed byte `imm8`, -128..127 (R91). -/
def Instr.wf : Instr → Bool
  | .select idx => decide (-128 ≤ idx) && decide (idx ≤ 127)
  | .disconnect => true
  | .status => true
  | .irq => true
  | .reset => true
  | .halt => true
  | .twDisable => true
  | .twEnable => true
  | .twRoute _ => true
  | .muxDisable _ => true
  | .muxEnable _ => true
  | .muxSelect _ _ => true
  | .decDisable => true
  | .decEnable => true
  | .decAddr _ => true
  | .expInit => true
  | .expRead => true
  | .expWrite _ => true
  | .waitDebounce => true
  | .waitSettle => true
  | .setActive _ => true
  | .setSample _ => true

end Sys2Proof
end

