-- ==== Sys2Proof/Decode.lean ====
section
/-! DEFINITION. The operation word: decoder (total on any word and on any bytes, rejecting by name), encoder, the opcode map of
R95 as rows, the packed descriptor of R85, the written form of R100. The encodings are the spec's own choice (D8 to D10). -/

namespace Sys2Proof

/-! ### Codes of the operands (R83, R84) -/

/-- `Side` as one bit: FIRST is 0 and SECOND is 1 (R84). -/
def Side.bit : Side → Bool
  | .first => false
  | .second => true

/-- The side a bit names (R84). -/
def Side.ofBit : Bool → Side
  | false => .first
  | true => .second

/-- `activePort` as a 4-bit code: ports 0 to 7, NONE is 8 (R83). -/
def activeCode : Option Port → BitVec 4
  | none => 8#4
  | some p => BitVec.ofNat 4 p.val

/-- The value a 4-bit code names: 0..7 a port, 8 NONE, 9..15 reserved (R83). -/
def activeOfCode (v : BitVec 4) : Option (Option Port) :=
  if h : v.toNat < 8 then some (some ⟨v.toNat, h⟩) else if v.toNat = 8 then some none else none

/-! ### The decoder (R90, R92, R94, R95) -/

/-- Why a word is reserved, or bytes hold no word (R94). -/
inductive DecodeError where
  /-- The opcode byte is in no row of R95. -/
  | reservedOpcode
  /-- A reserved bit of the argument byte is not zero. -/
  | reservedArgument
  /-- SET_ACTIVE with a code in 9..15. -/
  | reservedActiveCode
  /-- Fewer than two bytes: no whole word. -/
  | truncated
deriving DecidableEq, Repr

/-- The opcode byte, bits 15:8 (R90). -/
def opOf (w : Word16) : Byte := w.extractLsb' 8 8

/-- The argument byte, bits 7:0 (R90). -/
def argOf (w : Word16) : Byte := w.extractLsb' 0 8

/-- `i`, if the argument bits in `reserved` are zero (R92, R94). -/
def guardArg (arg reserved : Byte) (i : Instr) : Except DecodeError Instr :=
  if arg &&& reserved = 0#8 then .ok i else .error .reservedArgument

/-- SET_ACTIVE's argument: bits 7:4 zero and a code of at most 8 (R95). -/
def decodeActive (arg : Byte) : Except DecodeError Instr :=
  if arg &&& 0xF0#8 = 0#8 then
    match activeOfCode (arg.extractLsb' 0 4) with
    | some v => .ok (.setActive v)
    | none => .error .reservedActiveCode
  else .error .reservedArgument

/-- The instance or side bit `n` of the argument byte (R92). -/
def sideAt (arg : Byte) (n : Nat) : Side := Side.ofBit (arg.getLsbD n)

/-- The operation an opcode byte and an argument byte name (R92, R95). -/
def decodeFields (op arg : Byte) : Except DecodeError Instr :=
  match op.toNat with
  | 0x01 => .ok (.select arg.toInt)
  | 0x02 => guardArg arg 0xFF#8 .disconnect
  | 0x03 => guardArg arg 0xFF#8 .status
  | 0x04 => guardArg arg 0xFF#8 .irq
  | 0x05 => guardArg arg 0xFF#8 .reset
  | 0x06 => guardArg arg 0xFF#8 .halt
  | 0x10 => guardArg arg 0xFF#8 .twDisable
  | 0x11 => guardArg arg 0xFF#8 .twEnable
  | 0x12 => guardArg arg 0xFE#8 (.twRoute (sideAt arg 0))
  | 0x20 => guardArg arg 0xEF#8 (.muxDisable (sideAt arg 4))
  | 0x21 => guardArg arg 0xEF#8 (.muxEnable (sideAt arg 4))
  | 0x22 => guardArg arg 0xEC#8 (.muxSelect (sideAt arg 4) (arg.extractLsb' 0 2))
  | 0x30 => guardArg arg 0xFF#8 .decDisable
  | 0x31 => guardArg arg 0xFF#8 .decEnable
  | 0x32 => guardArg arg 0xF8#8 (.decAddr (arg.extractLsb' 0 3))
  | 0x40 => guardArg arg 0xFF#8 .expInit
  | 0x41 => guardArg arg 0xFF#8 .expRead
  | 0x42 => .ok (.expWrite arg)
  | 0x50 => guardArg arg 0xFF#8 .waitDebounce
  | 0x51 => guardArg arg 0xFF#8 .waitSettle
  | 0x60 => decodeActive arg
  | 0x61 => .ok (.setSample arg)
  | _ => .error .reservedOpcode

/-- The operation a word names, or why it is reserved (R94, R95). -/
def decode (w : Word16) : Except DecodeError Instr := decodeFields (opOf w) (argOf w)

/-- A word from bytes: the opcode byte comes first (R59, D23). -/
def decodeBytes : List Byte → Except DecodeError (Instr × List Byte)
  | hi :: lo :: rest =>
    match decodeFields hi lo with
    | .ok i => .ok (i, rest)
    | .error e => .error e
  | [] => .error .truncated
  | [_] => .error .truncated

/-- A word as bytes, the opcode byte first (R59, D23). -/
def wordBytes (w : Word16) : List Byte := [opOf w, argOf w]

/-- What the decoder reads from an instruction of `nbits` bits whose bits are `w`, laid out as bytes; every bit above
`nbits` is 0. Every row of the table has 16 bits. -/
def decodeTableWord (nbits w : Nat) : Option Instr :=
  match decodeBytes (wordBytes (BitVec.ofNat 16 (w % 2 ^ nbits))) with
  | .ok (i, _) => some i
  | .error _ => none

/-! ### The encoder (R90, R92, R95) -/

/-- The opcode byte of an operation (R95). -/
def Instr.opcode : Instr → Byte
  | .select _ => 0x01#8
  | .disconnect => 0x02#8
  | .status => 0x03#8
  | .irq => 0x04#8
  | .reset => 0x05#8
  | .halt => 0x06#8
  | .twDisable => 0x10#8
  | .twEnable => 0x11#8
  | .twRoute _ => 0x12#8
  | .muxDisable _ => 0x20#8
  | .muxEnable _ => 0x21#8
  | .muxSelect _ _ => 0x22#8
  | .decDisable => 0x30#8
  | .decEnable => 0x31#8
  | .decAddr _ => 0x32#8
  | .expInit => 0x40#8
  | .expRead => 0x41#8
  | .expWrite _ => 0x42#8
  | .waitDebounce => 0x50#8
  | .waitSettle => 0x51#8
  | .setActive _ => 0x60#8
  | .setSample _ => 0x61#8

/-- An instance in bit 4 of the argument byte (R92). -/
def instanceArg (m : Side) : Byte := if m.bit then 0x10#8 else 0x00#8

/-- The argument byte of an operation (R92). -/
def Instr.argument : Instr → Byte
  | .select idx => BitVec.ofInt 8 idx
  | .disconnect => 0#8
  | .status => 0#8
  | .irq => 0#8
  | .reset => 0#8
  | .halt => 0#8
  | .twDisable => 0#8
  | .twEnable => 0#8
  | .twRoute side => if side.bit then 0x01#8 else 0x00#8
  | .muxDisable m => instanceArg m
  | .muxEnable m => instanceArg m
  | .muxSelect m n => instanceArg m ||| n.setWidth 8
  | .decDisable => 0#8
  | .decEnable => 0#8
  | .decAddr a => a.setWidth 8
  | .expInit => 0#8
  | .expRead => 0#8
  | .expWrite b => b
  | .waitDebounce => 0#8
  | .waitSettle => 0#8
  | .setActive v => (activeCode v).setWidth 8
  | .setSample b => b

/-- The word of an operation; of a SELECT whose index does not fit, the word of its low byte (`Instr.wf` rules it out). -/
def encode (i : Instr) : Word16 := i.opcode ++ i.argument

/-! ### The opcode map (R95) -/

/-- A row of R95: the word is the operation when `w AND mask = value`, and, for SET_ACTIVE, `arg[3:0] <= 8`. -/
structure OpcodeRow where
  mnemonic : String
  value : Word16
  mask : Word16
  /-- The greatest value of `arg[3:0]` the row admits (15 where R95 has no extra condition). -/
  maxNibble : Nat
deriving DecidableEq, Repr

/-- The word matches the row (R95). -/
def OpcodeRow.admits (r : OpcodeRow) (w : Word16) : Bool :=
  decide (w &&& r.mask = r.value) && decide ((w.extractLsb' 0 4).toNat ≤ r.maxNibble)

/-- The rows of the public operations (R95, group 0). -/
def publicRows : List OpcodeRow :=
  [⟨"SELECT", 0x0100#16, 0xFF00#16, 15⟩, ⟨"DISCONNECT", 0x0200#16, 0xFFFF#16, 15⟩, ⟨"STATUS", 0x0300#16, 0xFFFF#16, 15⟩,
   ⟨"IRQ", 0x0400#16, 0xFFFF#16, 15⟩, ⟨"RESET", 0x0500#16, 0xFFFF#16, 15⟩, ⟨"HALT", 0x0600#16, 0xFFFF#16, 15⟩]

/-- The rows of the micro-operations (R95, groups 1 to 6). -/
def microRows : List OpcodeRow :=
  [⟨"TW_DISABLE", 0x1000#16, 0xFFFF#16, 15⟩, ⟨"TW_ENABLE", 0x1100#16, 0xFFFF#16, 15⟩, ⟨"TW_ROUTE", 0x1200#16, 0xFFFE#16, 15⟩,
   ⟨"MUX_DISABLE", 0x2000#16, 0xFFEF#16, 15⟩, ⟨"MUX_ENABLE", 0x2100#16, 0xFFEF#16, 15⟩,
   ⟨"MUX_SELECT", 0x2200#16, 0xFFEC#16, 15⟩, ⟨"DEC_DISABLE", 0x3000#16, 0xFFFF#16, 15⟩,
   ⟨"DEC_ENABLE", 0x3100#16, 0xFFFF#16, 15⟩, ⟨"DEC_ADDR", 0x3200#16, 0xFFF8#16, 15⟩, ⟨"EXP_INIT", 0x4000#16, 0xFFFF#16, 15⟩,
   ⟨"EXP_READ", 0x4100#16, 0xFFFF#16, 15⟩, ⟨"EXP_WRITE", 0x4200#16, 0xFF00#16, 15⟩,
   ⟨"WAIT_DEBOUNCE", 0x5000#16, 0xFFFF#16, 15⟩, ⟨"WAIT_SETTLE", 0x5100#16, 0xFFFF#16, 15⟩,
   ⟨"SET_ACTIVE", 0x6000#16, 0xFFF0#16, 8⟩, ⟨"SET_SAMPLE", 0x6100#16, 0xFF00#16, 15⟩]

/-- The complete opcode map (R95). -/
def opcodeRows : List OpcodeRow := publicRows ++ microRows

/-- A reserved word matches no row of R95 (R94). -/
def reservedWord (w : Word16) : Bool := !opcodeRows.any (·.admits w)

/-- The operation is public, group 0; the others are micro-operations (R95, R96). -/
def Instr.isPublic : Instr → Bool
  | .select _ => true
  | .disconnect => true
  | .status => true
  | .irq => true
  | .reset => true
  | .halt => true
  | .twDisable => false
  | .twEnable => false
  | .twRoute _ => false
  | .muxDisable _ => false
  | .muxEnable _ => false
  | .muxSelect _ _ => false
  | .decDisable => false
  | .decEnable => false
  | .decAddr _ => false
  | .expInit => false
  | .expRead => false
  | .expWrite _ => false
  | .waitDebounce => false
  | .waitSettle => false
  | .setActive _ => false
  | .setSample _ => false

/-! ### The packed descriptor (R85) -/

/-- A PortDescriptor as 16 bits:
`{index[2:0], inputBit[2:0], outputBit[2:0], muxSide, muxSelect[1:0], twoWaySide, decoderAddress[2:0]}` (R85). -/
def PortDescriptor.pack (d : PortDescriptor) : Word16 :=
  BitVec.ofNat 3 d.index.val ++ BitVec.ofNat 3 d.inputBit.val ++ BitVec.ofNat 3 d.outputBit.val
    ++ BitVec.ofBool d.muxSide.bit ++ d.muxSelect ++ BitVec.ofBool d.twoWaySide.bit ++ d.decoderAddress

/-- The port or bit position three bits name. -/
def threeBits (v : BitVec 3) : Fin 8 := ⟨v.toNat, v.isLt⟩

/-- The descriptor a packed word holds (R85). -/
def PortDescriptor.unpack (w : Word16) : PortDescriptor where
  index := threeBits (w.extractLsb' 13 3)
  inputBit := threeBits (w.extractLsb' 10 3)
  outputBit := threeBits (w.extractLsb' 7 3)
  muxSide := Side.ofBit (w.getLsbD 6)
  muxSelect := w.extractLsb' 4 2
  twoWaySide := Side.ofBit (w.getLsbD 3)
  decoderAddress := w.extractLsb' 0 3

/-! ### The written form (R100) -/

/-- A hexadecimal digit. -/
def hexDigit (n : Nat) : Char := "0123456789ABCDEF".toList.getD n '0'

/-- A byte in `0x` form. -/
def writtenByte (b : Byte) : List Char := ['0', 'x', hexDigit (b.toNat / 16), hexDigit (b.toNat % 16)]

/-- A side as `FIRST` or `SECOND`. -/
def writtenSide : Side → List Char
  | .first => "FIRST".toList
  | .second => "SECOND".toList

/-- The digits of a number below 1000 and, as R82 admits any integer, of the larger ones by `Nat.repr`. -/
def writtenNat (n : Nat) : List Char :=
  if n < 10 then [hexDigit n]
  else if n < 100 then [hexDigit (n / 10), hexDigit (n % 10)]
  else if n < 1000 then [hexDigit (n / 100), hexDigit (n / 10 % 10), hexDigit (n % 10)]
  else (Nat.repr n).toList

/-- An index in decimal. -/
def writtenInt : Int → List Char
  | .ofNat n => writtenNat n
  | .negSucc n => '-' :: writtenNat (n + 1)

/-- The mnemonic of an operation (R95). -/
def Instr.mnemonic : Instr → List Char
  | .select _ => "SELECT".toList
  | .disconnect => "DISCONNECT".toList
  | .status => "STATUS".toList
  | .irq => "IRQ".toList
  | .reset => "RESET".toList
  | .halt => "HALT".toList
  | .twDisable => "TW_DISABLE".toList
  | .twEnable => "TW_ENABLE".toList
  | .twRoute _ => "TW_ROUTE".toList
  | .muxDisable _ => "MUX_DISABLE".toList
  | .muxEnable _ => "MUX_ENABLE".toList
  | .muxSelect _ _ => "MUX_SELECT".toList
  | .decDisable => "DEC_DISABLE".toList
  | .decEnable => "DEC_ENABLE".toList
  | .decAddr _ => "DEC_ADDR".toList
  | .expInit => "EXP_INIT".toList
  | .expRead => "EXP_READ".toList
  | .expWrite _ => "EXP_WRITE".toList
  | .waitDebounce => "WAIT_DEBOUNCE".toList
  | .waitSettle => "WAIT_SETTLE".toList
  | .setActive _ => "SET_ACTIVE".toList
  | .setSample _ => "SET_SAMPLE".toList

/-- The operands of an operation as they are written, in the order of R92 (R100). -/
def Instr.writtenOperands : Instr → List (List Char)
  | .select idx => [writtenInt idx]
  | .disconnect => []
  | .status => []
  | .irq => []
  | .reset => []
  | .halt => []
  | .twDisable => []
  | .twEnable => []
  | .twRoute side => [writtenSide side]
  | .muxDisable m => [writtenSide m]
  | .muxEnable m => [writtenSide m]
  | .muxSelect m n => [writtenSide m, writtenNat n.toNat]
  | .decDisable => []
  | .decEnable => []
  | .decAddr a => [writtenNat a.toNat]
  | .expInit => []
  | .expRead => []
  | .expWrite b => [writtenByte b]
  | .waitDebounce => []
  | .waitSettle => []
  | .setActive none => ["NONE".toList]
  | .setActive (some p) => [writtenNat p.val]
  | .setSample b => [writtenByte b]

/-- The written form: the mnemonic, then the operands separated by commas (R100). -/
def Instr.written (i : Instr) : List Char :=
  match i.writtenOperands with
  | [] => i.mnemonic
  | a :: rest => i.mnemonic ++ ' ' :: a ++ rest.flatMap (fun o => [',', ' '] ++ o)

/-! ### The console (R101) -/

/-- A line of the console command surface, as the console reads it (R101). -/
inductive ConsoleCommand where
  /-- `select <0-7>`, with the index the console forwards. -/
  | select (idx : Int)
  | disconnect
  | status
  | help
  /-- Text the console does not recognise. -/
  | unrecognised
deriving DecidableEq, Repr

/-- The public operation a console line calls, if it calls the core at all (R101). -/
def ConsoleCommand.operation : ConsoleCommand → Option Instr
  | .select idx => some (.select idx)
  | .disconnect => some .disconnect
  | .status => some .status
  | .help => none
  | .unrecognised => none

end Sys2Proof
end

