-- ==== Sys2Proof/Machine/PortTable.lean ====
section
/-! DEFINITION. Reading the Port Table, its well-formedness, the route distinctness premise and the default table. -/

namespace Sys2Proof

/-- The ports in ascending index order (R8). -/
def ports : List Port := [0, 1, 2, 3, 4, 5, 6, 7]

/-- `PT[p]`, a pure lookup that cannot fail (R33, R62). -/
def PortTable.get (t : PortTable) (p : Port) : PortDescriptor :=
  match p.val with
  | 0 => t.p0
  | 1 => t.p1
  | 2 => t.p2
  | 3 => t.p3
  | 4 => t.p4
  | 5 => t.p5
  | 6 => t.p6
  | _ => t.p7

/-- Well-formedness of `PT`: one descriptor per index, `inputBit` values pairwise distinct, `outputBit` values pairwise
distinct (R34). -/
abbrev PortTable.wf (t : PortTable) : Prop :=
  (∀ p, (t.get p).index = p) ∧
  (∀ p q, (t.get p).inputBit = (t.get q).inputBit → p = q) ∧
  (∀ p q, (t.get p).outputBit = (t.get q).outputBit → p = q)

/-- `RouteDistinct(PT)`: no two ports share a decoder address or a switch setting; an optional premise (R36). -/
abbrev PortTable.routeDistinct (t : PortTable) : Prop :=
  ∀ p q, p ≠ q → (t.get p).decoderAddress ≠ (t.get q).decoderAddress ∧
    ((t.get p).muxSide, (t.get p).muxSelect, (t.get p).twoWaySide) ≠
      ((t.get q).muxSide, (t.get q).muxSelect, (t.get q).twoWaySide)

/-- The default table `T0` (R35, D3). -/
def PortTable.t0 : PortTable where
  p0 := ⟨0, 7, 7, .first, 0, .first, 0⟩
  p1 := ⟨1, 6, 6, .first, 1, .first, 1⟩
  p2 := ⟨2, 5, 5, .first, 2, .first, 2⟩
  p3 := ⟨3, 4, 4, .first, 3, .first, 3⟩
  p4 := ⟨4, 3, 3, .second, 0, .second, 4⟩
  p5 := ⟨5, 2, 2, .second, 1, .second, 5⟩
  p6 := ⟨6, 1, 1, .second, 2, .second, 6⟩
  p7 := ⟨7, 0, 0, .second, 3, .second, 7⟩

/-- The other side (R17). -/
def Side.other : Side → Side
  | .first => .second
  | .second => .first

/-- The parameters a model admits: a well-formed table and two positive delays (R10, R34). -/
abbrev Params.wf (q : Params) : Prop := q.table.wf ∧ 0 < q.tDebounce ∧ 0 < q.tSettle

/-- The default parameters: table `T0`, `RESET_SEL` all zero (D13), every enable line high when enabled and unit delays (DESIGN
CHOICE, notes/assumptions 3 and 4). -/
def Params.default : Params where
  table := PortTable.t0
  resetSel := ⟨.first, 0, 0, 0⟩
  enPol := ⟨true, true, true, true⟩
  tDebounce := 1
  tSettle := 1

end Sys2Proof
end

