-- ==== Sys2Proof/Machine/State.lean ====
section
/-! DEFINITION. The state of the machine as plain data. `Selector` is the record `S` of R20, field for field. Around it stand the
model's own parts: the parameters of R11, the environment the core meets (panel, waiting requests, oracle answers) and what
the core gives back (responses and the trace). -/

namespace Sys2Proof.Machine

/-- The two-way switch record (R24). -/
structure TwoWay where
  /-- Enabled: the shared data path is closed. -/
  en : Bool
  /-- The branch connected when enabled; kept while disabled. -/
  side : Side
deriving DecidableEq, Repr, Inhabited

/-- A four-way switch record (R25). -/
structure FourWay where
  en : Bool
  /-- The selection, 0..3; kept while disabled. -/
  sel : BitVec 2
deriving DecidableEq, Repr, Inhabited

/-- The decoder-enable device record (R26). -/
structure Decoder where
  en : Bool
  /-- The address, 0..7; kept while disabled. -/
  addr : BitVec 3
deriving DecidableEq, Repr, Inhabited

/-- The labels of the sequencer's program counter (R28). -/
inductive Phase where
  | idle
  | c1 | c2 | c3 | c4 | c5 | c6 | c7 | c8 | c9 | c10 | c11 | c12
  | d1 | d2 | d3 | d4 | d5
  | l1
  | i1 | i2 | i3
  | z1 | z2 | z3 | z4 | z5 | z6 | z7 | z8 | z9 | z10 | z11 | z12
deriving DecidableEq, Repr, Inhabited

/-- Who started the running sequence (R29). -/
inductive Ctx where
  | cmd
  | irq
  | halt
deriving DecidableEq, Repr, Inhabited

/-- The state record `S`: exactly the fields of R20. -/
structure Selector where
  /-- NONE or the connected port (R21). -/
  activePort : Option Port
  /-- The reference sample of the edge detector (R23). -/
  lastSample : Byte
  /-- The two-way switch (R24). -/
  tw : TwoWay
  /-- `mux[FIRST]` (R25). -/
  mux0 : FourWay
  /-- `mux[SECOND]` (R25). -/
  mux1 : FourWay
  /-- The decoder-enable device (R26). -/
  dec : Decoder
  /-- The content of the expander's output bank `OUT` (R27, R50). -/
  led : Byte
  /-- The expander's internal interrupt latch (R30). -/
  intLatch : Bool
  /-- The next micro-operation's label, or IDLE (R28). -/
  phase : Phase
  /-- The latched target port of a connect (R29). -/
  tgt : Port
  /-- The latched sample of the running handler or reset (R29). -/
  smp : Byte
  /-- Who started the running sequence (R29). -/
  ctx : Ctx
  /-- A bus failure has happened since reset (R31). -/
  faultSeen : Bool
  /-- The core accepts nothing but RESET (R32). -/
  halted : Bool
deriving DecidableEq, Repr, Inhabited

/-- The kinds of `BusFault` (R212). -/
inductive BusKind where
  | init
  | read
  | write
deriving DecidableEq, Repr

/-- The response codes (R98). -/
inductive RespCode where
  | ok
  | eBusRead
  | eBusWrite
  | eBusInit
  | eMalformed
  | eHalted
deriving DecidableEq, Repr

/-- Where a response code goes: to the caller, or, for IRQ, which has none, only into a trace (R98). -/
inductive Recipient where
  | caller
  | traceOnly
deriving DecidableEq, Repr

/-- A response: its code and, for STATUS, the status word (R97, R98). -/
structure Response where
  recipient : Recipient
  code : RespCode
  status : Option Word16
deriving DecidableEq, Repr

/-- An entry of the micro-operation trace: the phase label at which a micro-operation ran and its word (R96), and for a failed
one the kind (R212). -/
inductive TraceEntry where
  | done (phase : Phase) (word : Word16)
  | failed (phase : Phase) (word : Word16) (kind : BusKind)
deriving DecidableEq, Repr

/-- What the environment may do between two steps of the core. -/
inductive EnvEvent where
  /-- The switch levels become `b` (R56). `notice` says what becomes of the notification a set latch raises: `some n` adds an
  IRQ request at place `n` of the waiting ones, `none` merges it with one that waits already and, with none waiting, adds it at
  the end (R57, R221, notes/assumptions 9). -/
  | panel (b : Byte) (notice : Option Nat)
  /-- A requester presents a word, which waits at place `n` of the waiting ones (R66, R69). -/
  | request (w : Word16) (n : Nat)
  /-- The core loses power and comes back in the power-on state (R240, R251). -/
  | powerCycle
deriving DecidableEq, Repr

/-- Whose move the next step is. -/
inductive Turn where
  | core
  | env (e : EnvEvent)
deriving DecidableEq, Repr

/-- The environment of the core. None of it is a field of R20's `S`. -/
structure Env where
  /-- The levels of the eight switches, the content of the input bank `IN` (R50, R52, R56). -/
  panel : Byte
  /-- The interleaving of environment and core; when it is empty the core moves. -/
  turns : List Turn
  /-- The waiting request words, the first to be taken first (R69). -/
  requests : List Word16
  /-- Micro-operation words issued by somebody else than the sequencer (R269). -/
  bare : List Word16
  /-- The next answers of `BusOracle`; when it is empty the answers are free. -/
  busScript : List BusAnswer
  /-- The next answers of `PanelOracle`; when it is empty the answers are free. -/
  readScript : List ReadAnswer
  /-- The counter the free values are applied to. -/
  free : Nat
deriving DecidableEq, Repr

/-- What the core gives back, and the record of what it did. None of it is a field of R20's `S`. -/
structure Obs where
  /-- The responses, newest first (R98). -/
  responses : List Response
  /-- The micro-operations executed, newest first (R96, R212). -/
  trace : List TraceEntry
  /-- The trace is marked as a hazard violation (R269). -/
  hazard : Bool
deriving DecidableEq, Repr

/-- The state of the model. -/
structure State where
  /-- The state record of the core (R20). -/
  S : Selector
  /-- The parameters (R11). -/
  par : Params
  /-- The environment. -/
  env : Env
  /-- What the core gives back. -/
  obs : Obs
deriving DecidableEq, Repr

/-- Why the machine stops with a fault: never. The core's only exception, `BusFault`, ends a public operation and the core goes
on (R213, R214), and an access outside the two banks cannot be expressed (R50, R60). Safe: no step stops here. -/
inductive Fault where
deriving DecidableEq, Repr

/-- Why an instruction gets no next state. -/
inductive Refusal where
  /-- Raised by an arm of `exec` whose instruction has no meaning yet; no arm raises it. Safe: the run stops. -/
  | notModelled (mnemonic : String)
  /-- Raised by EXP_READ at phase I2 when a bit rose and no port of the table has that input bit, which no well-formed table
  allows (R34, R273, U12: "the model takes only well-formed tables"). Safe: the run stops. -/
  | portTableIllFormed
deriving DecidableEq, Repr

/-- The machine right after a successful RESET (R43) with the default parameters: nothing connected, all LEDs off, at IDLE,
nothing waiting. `lastSample` is the byte a startup read of an untouched panel returns (DESIGN CHOICE, notes/assumptions 1); the
select, side and address lines hold the default `RESET_SEL` (DESIGN CHOICE 2); `tgt`, `smp`, `ctx` are zero (DESIGN CHOICE 5). -/
def State.reset : State where
  S :=
    { activePort := none, lastSample := 0xFF#8, tw := ⟨false, .first⟩, mux0 := ⟨false, 0⟩, mux1 := ⟨false, 0⟩
      dec := ⟨false, 0⟩, led := 0xFF#8, intLatch := false, phase := .idle, tgt := 0, smp := 0#8, ctx := .cmd
      faultSeen := false, halted := false }
  par := Params.default
  env :=
    { panel := 0xFF#8, turns := [], requests := [], bare := [], busScript := [], readScript := [], free := 0 }
  obs := { responses := [], trace := [], hazard := false }

end Sys2Proof.Machine
end

