-- ==== Sys2Proof/Machine/Flags.lean ====
section
/-! DEFINITION. The flag-like values and the words computed from the state: the edge detector's combinational bytes, the response
code numbers, the status word. The core has no arithmetic flag (R41). -/

namespace Sys2Proof.Machine

/-- `changed = lastSample XOR smp` (R187). -/
def changedBits (last smp : Byte) : Byte := last ^^^ smp

/-- `rising = (~lastSample) AND smp`: bits that went from pressed to released (R188). -/
def risingBits (last smp : Byte) : Byte := ~~~last &&& smp

/-- The number of a response code (R98). -/
def RespCode.number : RespCode → Nat
  | .ok => 0
  | .eBusRead => 1
  | .eBusWrite => 2
  | .eBusInit => 3
  | .eMalformed => 4
  | .eHalted => 5

/-- The response code of a bus failure (R212). -/
def BusKind.code : BusKind → RespCode
  | .init => .eBusInit
  | .read => .eBusRead
  | .write => .eBusWrite

/-- `S.mux[m]` (R25). -/
def Selector.mux (S : Selector) : Side → FourWay
  | .first => S.mux0
  | .second => S.mux1

/-- The status word of STATUS (R97): `activePort`'s code, then the twelve control values of the route devices. -/
def Selector.statusWord (S : Selector) : Word16 :=
  activeCode S.activePort ++ BitVec.ofBool S.tw.en ++ BitVec.ofBool S.tw.side.bit ++ BitVec.ofBool S.mux0.en ++ S.mux0.sel
    ++ BitVec.ofBool S.mux1.en ++ S.mux1.sel ++ BitVec.ofBool S.dec.en ++ S.dec.addr

/-- The physical level of an enable line: `EN_POL[dev]` when enabled and its complement when not (R97). -/
def enableLevel (pol en : Bool) : Bool := if en then pol else !pol

/-- The physical levels of the four enable lines, in the order two-way, FIRST, SECOND, decoder (R97). -/
def State.enableLevels (s : State) : List Bool :=
  [enableLevel s.par.enPol.tw s.S.tw.en, enableLevel s.par.enPol.mux0 s.S.mux0.en,
   enableLevel s.par.enPol.mux1 s.S.mux1.en, enableLevel s.par.enPol.dec s.S.dec.en]

end Sys2Proof.Machine
end

