-- ==== Sys2Proof/Machine/Operands.lean ====
section
/-! DEFINITION. The operands: the SELECT index, the LED byte, the priority mux, and the micro-operation, with its operands, that
each phase label names (R28). -/

namespace Sys2Proof.Machine

/-- `valid(idx)`, giving the port it names (R17, R82). -/
def portOfIndex (idx : Int) : Option Port :=
  if h : 0 ≤ idx ∧ idx ≤ 7 then some ⟨idx.toNat, by omega⟩ else none

/-- `onecold(k)`: bit `k` is 0 and every other bit 1 (R17). -/
def onecold (k : BitPos) : Byte := ~~~(1#8 <<< k.val)

/-- `ledByte(a)`, the reflection function (R170). -/
def ledByte (t : PortTable) : Option Port → Byte
  | none => 0xFF#8
  | some p => onecold (t.get p).outputBit

/-- `prio(rising)`: the least port index whose `inputBit` rose (R189). -/
def prio (t : PortTable) (rising : Byte) : Option Port :=
  ports.find? (fun q => rising.getLsbD (t.get q).inputBit.val)

/-- The source's step 1: everything off (R152). -/
def allOff : List Instr := [.twDisable, .muxDisable .first, .muxDisable .second, .decDisable]

/-- The macro `connectPort(p)`: phases C1 to C12 (R102, R152). -/
def connectPort (t : PortTable) (p : Port) : List Instr :=
  allOff ++ [.decAddr (t.get p).decoderAddress, .muxSelect (t.get p).muxSide (t.get p).muxSelect,
    .twRoute (t.get p).twoWaySide, .muxEnable (t.get p).muxSide, .decEnable, .waitSettle, .twEnable, .setActive (some p)]

/-- The macro `disconnectAll()`, the internal routine: phases D1 to D5 (R102, R154). -/
def disconnectAll : List Instr := allOff ++ [.setActive none]

/-- The macro `refreshLeds()`: phase L1 (R102, R171). -/
def refreshLeds (t : PortTable) (a : Option Port) : List Instr := [.expWrite (ledByte t a)]

/-- RESET's phases Z1 to Z12, `smp` being the byte its read returns (R203). -/
def resetSequence (q : Params) (smp : Byte) : List Instr :=
  [.expInit] ++ allOff ++ [.twRoute q.resetSel.tw, .muxSelect .first q.resetSel.mux0, .muxSelect .second q.resetSel.mux1,
    .decAddr q.resetSel.dec, .setActive none, .expRead, .setSample smp]

/-- The next micro-operation of the sequencer, by phase label; none at IDLE (R28). -/
def State.nextMicro (s : State) : Option Instr :=
  match s.S.phase with
  | .idle => none
  | .c1 => some .twDisable
  | .c2 => some (.muxDisable .first)
  | .c3 => some (.muxDisable .second)
  | .c4 => some .decDisable
  | .c5 => some (.decAddr (s.par.table.get s.S.tgt).decoderAddress)
  | .c6 => some (.muxSelect (s.par.table.get s.S.tgt).muxSide (s.par.table.get s.S.tgt).muxSelect)
  | .c7 => some (.twRoute (s.par.table.get s.S.tgt).twoWaySide)
  | .c8 => some (.muxEnable (s.par.table.get s.S.tgt).muxSide)
  | .c9 => some .decEnable
  | .c10 => some .waitSettle
  | .c11 => some .twEnable
  | .c12 => some (.setActive (some s.S.tgt))
  | .d1 => some .twDisable
  | .d2 => some (.muxDisable .first)
  | .d3 => some (.muxDisable .second)
  | .d4 => some .decDisable
  | .d5 => some (.setActive none)
  | .l1 => some (.expWrite (ledByte s.par.table s.S.activePort))
  | .i1 => some .waitDebounce
  | .i2 => some .expRead
  | .i3 => some (.setSample s.S.smp)
  | .z1 => some .expInit
  | .z2 => some .twDisable
  | .z3 => some (.muxDisable .first)
  | .z4 => some (.muxDisable .second)
  | .z5 => some .decDisable
  | .z6 => some (.twRoute s.par.resetSel.tw)
  | .z7 => some (.muxSelect .first s.par.resetSel.mux0)
  | .z8 => some (.muxSelect .second s.par.resetSel.mux1)
  | .z9 => some (.decAddr s.par.resetSel.dec)
  | .z10 => some (.setActive none)
  | .z11 => some .expRead
  | .z12 => some (.setSample s.S.smp)

/-- The label after one in a chain (R155, R173, R186, R203). The labels whose successor depends on more than the label (IDLE, L1,
I2, I3, Z12) end at IDLE here; `State.advance` says where they go. -/
def Phase.succ : Phase → Phase
  | .idle => .idle
  | .c1 => .c2
  | .c2 => .c3
  | .c3 => .c4
  | .c4 => .c5
  | .c5 => .c6
  | .c6 => .c7
  | .c7 => .c8
  | .c8 => .c9
  | .c9 => .c10
  | .c10 => .c11
  | .c11 => .c12
  | .c12 => .l1
  | .d1 => .d2
  | .d2 => .d3
  | .d3 => .d4
  | .d4 => .d5
  | .d5 => .l1
  | .l1 => .idle
  | .i1 => .i2
  | .i2 => .idle
  | .i3 => .idle
  | .z1 => .z2
  | .z2 => .z3
  | .z3 => .z4
  | .z4 => .z5
  | .z5 => .z6
  | .z6 => .z7
  | .z7 => .z8
  | .z8 => .z9
  | .z9 => .z10
  | .z10 => .z11
  | .z11 => .z12
  | .z12 => .idle

/-- A label of the RESET chain (R203). -/
def Phase.isReset : Phase → Bool
  | .z1 => true
  | .z2 => true
  | .z3 => true
  | .z4 => true
  | .z5 => true
  | .z6 => true
  | .z7 => true
  | .z8 => true
  | .z9 => true
  | .z10 => true
  | .z11 => true
  | .z12 => true
  | _ => false

end Sys2Proof.Machine
end

