-- ==== Sys2Proof/Machine/Ops.lean ====
section
/-! DEFINITION. The operations all meanings share: writing one field, the two expander banks, responses and the trace, the
interrupt notification, `raise BusFault`, the sequencer's move to its next label, and the acceptance of a public operation. -/

namespace Sys2Proof.Machine

/-! ### Writing one field of the state record (R14) -/

namespace State

/-- `S.tw.en <- b` -/
def setTwEn (s : State) (b : Bool) : State := { s with S.tw.en := b }

/-- `S.tw.side <- d` -/
def setTwSide (s : State) (d : Side) : State := { s with S.tw.side := d }

/-- `S.mux[m].en <- b` -/
def setMuxEn (s : State) (m : Side) (b : Bool) : State :=
  match m with
  | .first => { s with S.mux0.en := b }
  | .second => { s with S.mux1.en := b }

/-- `S.mux[m].sel <- n` -/
def setMuxSel (s : State) (m : Side) (n : BitVec 2) : State :=
  match m with
  | .first => { s with S.mux0.sel := n }
  | .second => { s with S.mux1.sel := n }

/-- `S.dec.en <- b` -/
def setDecEn (s : State) (b : Bool) : State := { s with S.dec.en := b }

/-- `S.dec.addr <- a` -/
def setDecAddr (s : State) (a : BitVec 3) : State := { s with S.dec.addr := a }

/-- `S.activePort <- v` -/
def setActive (s : State) (v : Option Port) : State := { s with S.activePort := v }

/-- `S.lastSample <- b` -/
def setSample (s : State) (b : Byte) : State := { s with S.lastSample := b }

/-- `S.led <- b` -/
def setLed (s : State) (b : Byte) : State := { s with S.led := b }

/-- `S.intLatch <- b` -/
def setLatch (s : State) (b : Bool) : State := { s with S.intLatch := b }

/-- `S.smp <- b` -/
def setSmp (s : State) (b : Byte) : State := { s with S.smp := b }

/-- `S.tgt <- p` -/
def setTgt (s : State) (p : Port) : State := { s with S.tgt := p }

/-- `S.ctx <- c` -/
def setCtx (s : State) (c : Ctx) : State := { s with S.ctx := c }

/-- `S.phase <- l` -/
def setPhase (s : State) (l : Phase) : State := { s with S.phase := l }

/-- `S.faultSeen <- b` -/
def setFaultSeen (s : State) (b : Bool) : State := { s with S.faultSeen := b }

/-- `S.halted <- b` -/
def setHalted (s : State) (b : Bool) : State := { s with S.halted := b }

/-! ### Free values, responses, the trace -/

/-- `n` free values have been used. -/
def useFree (s : State) (n : Nat) : State := { s with env.free := s.env.free + n }

/-- One response is given (R98). -/
def respond (s : State) (r : Recipient) (c : RespCode) (w : Option Word16) : State :=
  { s with obs.responses := ⟨r, c, w⟩ :: s.obs.responses }

/-- A micro-operation is written into the trace (R96). -/
def record (s : State) (e : TraceEntry) : State := { s with obs.trace := e :: s.obs.trace }

/-- The trace is marked if the ordering precondition of a setter was broken (R130, R269). -/
def markHazard (s : State) (broken : Bool) : State := { s with obs.hazard := s.obs.hazard || broken }

/-! ### Waiting requests and the interrupt notification -/

end State

/-- `x` at place `n` of a list, at its end if the list is shorter. -/
def insertAt {α : Type} : Nat → α → List α → List α
  | 0, x, l => x :: l
  | _ + 1, x, [] => [x]
  | n + 1, x, y :: l => y :: insertAt n x l

/-- One more IRQ request among the waiting words: at place `n`, or, where `notice` is `none`, merged with an IRQ that waits already; with
none waiting it is added, at the end. How many waiting notifications are kept, and where, is open (R69, R221, U10): both forms are
the model's choice (DESIGN CHOICE, notes/assumptions 9). No form loses the last one. -/
def addInterrupt (notice : Option Nat) (l : List Word16) : List Word16 :=
  match notice with
  | some n => insertAt n (encode .irq) l
  | none => if encode .irq ∈ l then l else l ++ [encode .irq]

namespace State

/-- A request word waits at place `n` (R69). -/
def wait (s : State) (w : Word16) (n : Nat) : State := { s with env.requests := insertAt n w s.env.requests }

/-- The interrupt line changed its level: one IRQ request (R57), dropped while halted (R113), else among those that wait. -/
def notify (s : State) (notice : Option Nat) : State :=
  if s.S.halted then s else { s with env.requests := addInterrupt notice s.env.requests }

/-! ### The two expander banks (R15, R50) -/

/-- What the next bus transaction answers (`BusOracle`). -/
def busAnswer (s : State) : BusAnswer :=
  match s.env.busScript with
  | a :: _ => a
  | [] => Config.freeBus s.env.free

/-- The answer is used up. -/
def useBus (s : State) : State :=
  match s.env.busScript with
  | _ :: rest => { s with env.busScript := rest }
  | [] => s.useFree 1

/-- What the next read of the input bank answers (`PanelOracle`). -/
def readAnswer (s : State) : ReadAnswer :=
  match s.env.readScript with
  | a :: _ => a
  | [] => Config.freeRead s.env.free

/-- The answer is used up. -/
def useRead (s : State) : State :=
  match s.env.readScript with
  | _ :: rest => { s with env.readScript := rest }
  | [] => s.useFree 1

/-- `ExpRead()`: the byte of the input bank, or none for `busfail` (R15); under the environment model it is the panel's level at the
moment of the read (R56, R71). -/
def readByte (s : State) : Option Byte :=
  match s.readAnswer with
  | .ok b _ => some b
  | .level _ => some s.env.panel
  | .busfail => none

/-- What becomes of the notification the next read may raise. -/
def readNotice (s : State) : Option Nat :=
  match s.readAnswer with
  | .ok _ n => n
  | .level n => n
  | .busfail => none

/-- A successful read clears the latch, and if the latch was set the line changes its level (R55, R56, R57). -/
def clearLatch (s : State) (notice : Option Nat) : State :=
  if s.S.intLatch then (s.setLatch false).notify notice else s.setLatch false

/-! ### Unspecified values (U1, U4, U5, U11) -/

/-- `led` becomes unspecified (U4). -/
def losesLed (s : State) : State := (s.setLed (Config.freeByte s.env.free)).useFree 1

/-- `intLatch` becomes unspecified (U5). -/
def losesLatch (s : State) : State := (s.setLatch (Config.freeBool s.env.free)).useFree 1

/-- `lastSample` becomes unspecified (U5). -/
def losesSample (s : State) : State := (s.setSample (Config.freeByte s.env.free)).useFree 1

/-- `tgt`, `smp` and `ctx` become unspecified (R43). -/
def losesOperands (s : State) : State :=
  (((s.setTgt (Config.freePort s.env.free)).setSmp (Config.freeByte s.env.free)).setCtx
    (if Config.freeBool s.env.free then .cmd else if Config.freeBool (s.env.free + 1) then .irq else .halt)).useFree 2

/-- Every field of `S` becomes unspecified but `halted`, which is 1, and `phase`, which is IDLE: the power-on state (R43, R251). -/
def losesAll (s : State) : State :=
  ({ s with
    S :=
      { activePort := Config.freeActive s.env.free
        lastSample := Config.freeByte s.env.free
        tw := ⟨Config.freeBool s.env.free, Config.freeSide s.env.free⟩
        mux0 := ⟨Config.freeBool (s.env.free + 1), Config.freeSel s.env.free⟩
        mux1 := ⟨Config.freeBool (s.env.free + 2), Config.freeSel (s.env.free + 1)⟩
        dec := ⟨Config.freeBool (s.env.free + 3), Config.freeAddr s.env.free⟩
        led := Config.freeByte (s.env.free + 1)
        intLatch := Config.freeBool (s.env.free + 4)
        phase := .idle
        tgt := Config.freePort s.env.free
        smp := Config.freeByte (s.env.free + 2)
        ctx := if Config.freeBool (s.env.free + 5) then .cmd else if Config.freeBool (s.env.free + 6) then .irq else .halt
        faultSeen := Config.freeBool (s.env.free + 7)
        halted := true } } : State).useFree 8

/-! ### `raise BusFault`: the one exception (R16, R212, R214) -/

/-- Who is told how the running operation ended (R98): IRQ has no caller. -/
def recipient (s : State) : Recipient :=
  match s.S.phase with
  | .i1 => .traceOnly
  | .i2 => .traceOnly
  | .i3 => .traceOnly
  | .idle => .caller
  | l => if l.isReset then .caller else if s.S.ctx = .irq then .traceOnly else .caller

/-- The end of HALT: `halted <- 1`, IDLE, `OK` (R173, R206). -/
def endHalt (s : State) : State := ((s.setHalted true).respond .caller .ok none).setPhase .idle

/-- `raise BusFault(kind)`: `faultSeen <- 1`, the running operation is abandoned, `phase <- IDLE`, the kind's response code is
produced (R214). The failure of HALT's LED write is swallowed (R173, R206, R214). Of an EXP_WRITE that somebody else issues and that
fails while HALT is at L1 the spec says nothing: it is treated as HALT's own, so HALT ends there and L1 is not run (DESIGN CHOICE,
notes/assumptions 13). -/
def raiseBusFault (s : State) (k : BusKind) : State :=
  if s.S.phase = .l1 ∧ s.S.ctx = .halt ∧ k = .write then (s.setFaultSeen true).endHalt
  else ((s.setFaultSeen true).respond s.recipient k.code none).setPhase .idle

/-! ### The sequencer's moves (R155, R173, R187 to R190, R203) -/

/-- The end of a public operation that ran to its end: `OK`, IDLE (R98). -/
def finish (s : State) : State := (s.respond s.recipient .ok none).setPhase .idle

/-- SELECT's dispatch on a valid port: the LED refresh alone if it is the active one, else the connect (R150, R189). -/
def dispatchPort (s : State) (p : Port) : State :=
  if s.S.activePort = some p then s.setPhase .l1 else (s.setTgt p).setPhase .c1

/-- After I2: discard a spurious interrupt, absorb a press, or select the port that was released (R187, R189, R193). -/
def dispatchEdge (s : State) : State :=
  if changedBits s.S.lastSample s.S.smp = 0#8 then s.finish
  else
    match prio s.par.table (risingBits s.S.lastSample s.S.smp) with
    | none => s.setPhase .i3
    | some p => s.dispatchPort p

/-- After L1 (R173). -/
def afterRefresh (s : State) : State :=
  match s.S.ctx with
  | .cmd => s.finish
  | .irq => s.setPhase .i3
  | .halt => s.endHalt

/-- After Z12: `halted <- 0`, IDLE, `OK`; the latched operands are unspecified then (R43, R203). -/
def endReset (s : State) : State := (s.setHalted false).finish.losesOperands

/-- The sequencer moves from the label whose micro-operation has just had its effect (R129, R155). -/
def advance (s : State) : State :=
  match s.S.phase with
  | .idle => s
  | .l1 => s.afterRefresh
  | .i2 => s.dispatchEdge
  | .i3 => s.finish
  | .z12 => s.endReset
  | l => s.setPhase l.succ

/-- The micro-operation `i`, issued in state `s`, had its effect and left `t`: it is traced, and the sequencer moves on if `i` is the
one its phase label names (R129); a micro-operation issued by somebody else leaves the phase as it is (R269). -/
def afterMicro (s : State) (i : Instr) (t : State) : State :=
  if s.nextMicro = some i then (t.record (.done s.S.phase (encode i))).advance else t.record (.done s.S.phase (encode i))

/-! ### Acceptance of public operations (R67, R140, R207) -/

/-- The word a request waits as; an index without a word acts like every other invalid one (R91). -/
def requestWord (i : Instr) : Word16 := if i.wf then encode i else encode (.select (-1))

/-- A public operation but RESET and IRQ: while the core is halted it is answered `E_HALTED` and changes nothing (R140, R207), at IDLE
it is accepted, and while an operation runs it waits behind the other requests (R67, R69). -/
def accept (s : State) (i : Instr) (taken : State) : State :=
  if s.S.halted then s.respond .caller .eHalted none
  else if s.S.phase = .idle then taken
  else s.wait (requestWord i) s.env.requests.length

/-- A reserved word or a word the port does not take: `E_MALFORMED`, nothing done (R94, R96). While halted the spec answers a word
that is not RESET with `E_HALTED` as well (R98), so that code is then free (DESIGN CHOICE, notes/assumptions 10). -/
def malformed (s : State) : State :=
  if s.S.halted then
    (s.respond .caller (if Config.freeBool s.env.free then .eMalformed else .eHalted) none).useFree 1
  else s.respond .caller .eMalformed none

/-- What a halted core does with a word that is not RESET: IRQ is dropped, any other public word is answered `E_HALTED` (R113, R207). -/
def refuse (s : State) (w : Word16) : State :=
  match decode w with
  | .ok .irq => s
  | .ok i => if i.isPublic then s.respond .caller .eHalted none else s.malformed
  | .error _ => s.malformed

/-- RESET is accepted: every request that waits was sent before RESET has answered `OK`, so it is refused as a halted core refuses it (R207,
R253), the interrupts among them being dropped (R205); another RESET keeps waiting (R67). That they are refused at the acceptance,
in the order they wait in, is the model's reading (notes/assumptions 23). -/
def refuseWaiting (s : State) : State :=
  (s.env.requests.filter (· ≠ encode .reset)).foldl refuse
    { s with env.requests := s.env.requests.filter (· = encode .reset) }

end State

end Sys2Proof.Machine
end

