-- ==== Sys2Proof/Machine/Control.lean ====
section
/-! DEFINITION. IRQ, STATUS, RESET and HALT. -/

namespace Sys2Proof.Machine

/-- IRQ (R185, R229): handler entry at I1 with `ctx <- IRQ`; nothing is saved. While the core is halted the request is dropped
(R113, R207); while an operation runs it waits (R221, R231). -/
def execIrq (s : State) : Host.Outcome State Fault Refusal :=
  .next (if s.S.halted then s else s.accept .irq ((s.setCtx .irq).setPhase .i1))

/-- STATUS (R200): `OK` with the status word; no field is written. -/
def execStatus (s : State) : Host.Outcome State Fault Refusal :=
  .next (s.accept .status (s.respond .caller .ok (some s.S.statusWord)))

/-- RESET (R203): accepted at IDLE whether halted or not; `faultSeen <- 0`, `halted <- 1`, phase Z1, and the requests
that wait are refused (R207, R253). While an operation runs it waits (R67). -/
def execReset (s : State) : Host.Outcome State Fault Refusal :=
  .next
    (if s.S.phase = .idle then (((s.setFaultSeen false).setHalted true).setPhase .z1).refuseWaiting
     else s.wait (State.requestWord .reset) s.env.requests.length)

/-- HALT (R206): disconnect all and the LED refresh with `ctx = HALT`. -/
def execHalt (s : State) : Host.Outcome State Fault Refusal :=
  .next (s.accept .halt ((s.setCtx .halt).setPhase .d1))

end Sys2Proof.Machine
end

