-- ==== Sys2Proof/Machine/Expander.lean ====
section
/-! DEFINITION. The Expander Port micro-operations: the only ones that use the bus and can fail (spec/40_expander_ops.md). -/

namespace Sys2Proof.Machine

/-- EXP_INIT (R110): the output bank gets its idle value and the latch is unspecified. A failure leaves `led` and `intLatch`
unspecified and abandons the RESET; at Z1 it leaves every field unspecified with `halted = 1` (R204). -/
def State.expInit (s : State) : State :=
  match s.busAnswer with
  | .ok => s.afterMicro .expInit ((s.useBus.setLed 0xFF#8).losesLatch)
  | .busfail =>
    let t := ((s.useBus.record (.failed s.S.phase (encode .expInit) .init)).losesLed.losesLatch).raiseBusFault .init
    if s.S.phase = .z1 then t.losesAll.setFaultSeen true else t

/-- EXP_INIT (R110). -/
def execExpInit (s : State) : Host.Outcome State Fault Refusal := .next s.expInit

/-- EXP_READ (R111): the byte goes to `smp` and the latch is cleared. A failure leaves `smp` as it was and `intLatch` unspecified, and
at Z11 `lastSample` too (R204). -/
def State.expRead (s : State) : State :=
  match s.readByte with
  | some b => s.afterMicro .expRead ((s.useRead.setSmp b).clearLatch s.readNotice)
  | none =>
    let t := ((s.useRead.record (.failed s.S.phase (encode .expRead) .read)).losesLatch).raiseBusFault .read
    if s.S.phase = .z11 then t.losesSample else t

/-- The handler's read rose a bit that no port of the table has: only a table that breaks R34 allows it (R273, U12). -/
def State.noPortForEdge (s : State) : Bool :=
  match s.S.phase with
  | .i2 =>
    match s.readByte with
    | some b =>
      decide (risingBits s.S.lastSample b ≠ 0#8) && (prio s.par.table (risingBits s.S.lastSample b)).isNone
    | none => false
  | _ => false

/-- EXP_READ (R111), with the edge detector's decision after it at phase I2 (R187 to R189). -/
def execExpRead (s : State) : Host.Outcome State Fault Refusal :=
  if s.noPortForEdge then .refused .portTableIllFormed else .next s.expRead

/-- EXP_WRITE b (R112): the whole output byte is replaced. A failure leaves `led` unspecified. -/
def State.expWrite (s : State) (b : Byte) : State :=
  match s.busAnswer with
  | .ok => s.afterMicro (.expWrite b) (s.useBus.setLed b)
  | .busfail => ((s.useBus.record (.failed s.S.phase (encode (.expWrite b)) .write)).losesLed).raiseBusFault .write

/-- EXP_WRITE b (R112). -/
def execExpWrite (b : Byte) (s : State) : Host.Outcome State Fault Refusal := .next (s.expWrite b)

end Sys2Proof.Machine
end

