-- ==== Sys2Proof/Machine/Internal.lean ====
section
/-! DEFINITION. The two waits and the two internal register writes (R131, R132, R134, R135). -/

namespace Sys2Proof.Machine

/-- WAIT_DEBOUNCE (R131): time passes, no field is written. -/
def execWaitDebounce (s : State) : Host.Outcome State Fault Refusal := .next (s.afterMicro .waitDebounce s)

/-- WAIT_SETTLE (R132): time passes, no field is written. -/
def execWaitSettle (s : State) : Host.Outcome State Fault Refusal := .next (s.afterMicro .waitSettle s)

/-- SET_ACTIVE (R134): `S.activePort <- v`. -/
def execSetActive (v : Option Port) (s : State) : Host.Outcome State Fault Refusal :=
  .next (s.afterMicro (.setActive v) (s.setActive v))

/-- SET_SAMPLE (R135): `S.lastSample <- b`. -/
def execSetSample (b : Byte) (s : State) : Host.Outcome State Fault Refusal :=
  .next (s.afterMicro (.setSample b) (s.setSample b))

end Sys2Proof.Machine
end

