-- ==== Sys2Proof/Machine/Route.lean ====
section
/-! DEFINITION. The route device micro-operations: total state-setters that read nothing of any other device and cannot fail
(R129). A side, selection or address written while its device is enabled is applied and marked (R130, R269). -/

namespace Sys2Proof.Machine

/-- TW_DISABLE (R120): `S.tw.en <- 0`. -/
def execTwDisable (s : State) : Host.Outcome State Fault Refusal := .next (s.afterMicro .twDisable (s.setTwEn false))

/-- TW_ENABLE (R121): `S.tw.en <- 1`. -/
def execTwEnable (s : State) : Host.Outcome State Fault Refusal := .next (s.afterMicro .twEnable (s.setTwEn true))

/-- TW_ROUTE (R122): `S.tw.side <- side`; a hazard while the switch is enabled (R260). -/
def execTwRoute (side : Side) (s : State) : Host.Outcome State Fault Refusal :=
  .next (s.afterMicro (.twRoute side) ((s.setTwSide side).markHazard s.S.tw.en))

/-- MUX_DISABLE (R123): `S.mux[m].en <- 0`. -/
def execMuxDisable (m : Side) (s : State) : Host.Outcome State Fault Refusal :=
  .next (s.afterMicro (.muxDisable m) (s.setMuxEn m false))

/-- MUX_ENABLE (R124): `S.mux[m].en <- 1`. -/
def execMuxEnable (m : Side) (s : State) : Host.Outcome State Fault Refusal :=
  .next (s.afterMicro (.muxEnable m) (s.setMuxEn m true))

/-- MUX_SELECT (R125): `S.mux[m].sel <- n`; a hazard while that instance is enabled (R261). -/
def execMuxSelect (m : Side) (n : BitVec 2) (s : State) : Host.Outcome State Fault Refusal :=
  .next (s.afterMicro (.muxSelect m n) ((s.setMuxSel m n).markHazard (s.S.mux m).en))

/-- DEC_DISABLE (R126): `S.dec.en <- 0`. -/
def execDecDisable (s : State) : Host.Outcome State Fault Refusal := .next (s.afterMicro .decDisable (s.setDecEn false))

/-- DEC_ENABLE (R127): `S.dec.en <- 1`. -/
def execDecEnable (s : State) : Host.Outcome State Fault Refusal := .next (s.afterMicro .decEnable (s.setDecEn true))

/-- DEC_ADDR (R128): `S.dec.addr <- a`; a hazard while the decoder is enabled (R262). -/
def execDecAddr (a : BitVec 3) (s : State) : Host.Outcome State Fault Refusal :=
  .next (s.afterMicro (.decAddr a) ((s.setDecAddr a).markHazard s.S.dec.en))

end Sys2Proof.Machine
end

