-- ==== Sys2Proof/Machine/Sequencer.lean ====
section
/-! DEFINITION. The public operations of the route sequencer, SELECT and DISCONNECT: they start the chains of R152 and R154. -/

namespace Sys2Proof.Machine

/-- SELECT (R150): disconnect all for an index outside 0..7, the LED refresh alone for the active port, else the connect. -/
def execSelect (idx : Int) (s : State) : Host.Outcome State Fault Refusal :=
  .next (s.accept (.select idx)
    (match portOfIndex idx with
      | none => (s.setCtx .cmd).setPhase .d1
      | some p => (s.setCtx .cmd).dispatchPort p))

/-- DISCONNECT (R151): phases D1 to D5, then the LED refresh. -/
def execDisconnect (s : State) : Host.Outcome State Fault Refusal :=
  .next (s.accept .disconnect ((s.setCtx .cmd).setPhase .d1))

end Sys2Proof.Machine
end

