-- ==== Sys2Proof/Machine/Dispatch.lean ====
section
/-! DEFINITION. The meaning of each operation, one arm per constructor. -/

namespace Sys2Proof.Machine

def exec (i : Instr) (s : State) : Host.Outcome State Fault Refusal :=
  match i with
  | .select idx => Sys2Proof.Machine.execSelect idx s
  | .disconnect => Sys2Proof.Machine.execDisconnect s
  | .status => Sys2Proof.Machine.execStatus s
  | .irq => Sys2Proof.Machine.execIrq s
  | .reset => Sys2Proof.Machine.execReset s
  | .halt => Sys2Proof.Machine.execHalt s
  | .twDisable => Sys2Proof.Machine.execTwDisable s
  | .twEnable => Sys2Proof.Machine.execTwEnable s
  | .twRoute side => Sys2Proof.Machine.execTwRoute side s
  | .muxDisable m => Sys2Proof.Machine.execMuxDisable m s
  | .muxEnable m => Sys2Proof.Machine.execMuxEnable m s
  | .muxSelect m n => Sys2Proof.Machine.execMuxSelect m n s
  | .decDisable => Sys2Proof.Machine.execDecDisable s
  | .decEnable => Sys2Proof.Machine.execDecEnable s
  | .decAddr a => Sys2Proof.Machine.execDecAddr a s
  | .expInit => Sys2Proof.Machine.execExpInit s
  | .expRead => Sys2Proof.Machine.execExpRead s
  | .expWrite b => Sys2Proof.Machine.execExpWrite b s
  | .waitDebounce => Sys2Proof.Machine.execWaitDebounce s
  | .waitSettle => Sys2Proof.Machine.execWaitSettle s
  | .setActive v => Sys2Proof.Machine.execSetActive v s
  | .setSample b => Sys2Proof.Machine.execSetSample b s

end Sys2Proof.Machine
end

