-- ==== Sys2Proof/Machine/Environment.lean ====
section
/-! DEFINITION. What the environment does between two steps of the core: the panel moves (R56), a requester presents a word (R66,
R69), the power fails (R240, R251). -/

namespace Sys2Proof.Machine

namespace State

/-- The switch levels become `b`. A change in any bit while the latch is clear sets it and the line changes its level; while the latch
is set nothing further happens (R30, R56, R57). -/
def panelMoves (s : State) (b : Byte) (notice : Option Nat) : State :=
  if b ≠ s.env.panel ∧ s.S.intLatch = false then (({ s with env.panel := b } : State).setLatch true).notify notice
  else { s with env.panel := b }

/-- A requester presents a word. It waits at place `n` until the core reaches IDLE (R67, R69). While the core is halted only RESET
waits: any other word is refused at once (R113, R207, R253, notes/assumptions 11). -/
def present (s : State) (w : Word16) (n : Nat) : State :=
  if s.S.halted ∧ w ≠ encode .reset then s.refuse w else s.wait w n

/-- One move of the environment. -/
def envMove (s : State) : EnvEvent → State
  | .panel b notice => s.panelMoves b notice
  | .request w n => s.present w n
  | .powerCycle => s.losesAll

end State

end Sys2Proof.Machine
end

