-- ==== Sys2Proof/Machine/Fetch.lean ====
section
/-! DEFINITION. Where the core gets its next operation from: a micro-operation issued from outside (R269), the phase label (R28), or,
at IDLE, the first waiting request (R67, R69). -/

namespace Sys2Proof.Machine

/-- A word at the command port: only public operations are accepted there (R94, R96). -/
def runRequest (w : Word16) (s : State) : Host.Outcome State Fault Refusal :=
  match decode w with
  | .ok i => if i.isPublic then exec i s else .next s.malformed
  | .error _ => .next s.malformed

/-- A word issued by somebody else than the sequencer: only micro-operations are taken there (R269). -/
def runBare (w : Word16) (s : State) : Host.Outcome State Fault Refusal :=
  match decode w with
  | .ok i => if i.isPublic then .next s.malformed else exec i s
  | .error _ => .next s.malformed

/-- One move of the core. At IDLE with nothing waiting it waits (R250). -/
def coreMove (s : State) : Host.Outcome State Fault Refusal :=
  match s.env.bare with
  | w :: rest => runBare w { s with env.bare := rest }
  | [] =>
    match s.nextMicro with
    | some i => exec i s
    | none =>
      match s.env.requests with
      | w :: rest => runRequest w { s with env.requests := rest }
      | [] => .next s

end Sys2Proof.Machine
end

