-- ==== Sys2Proof/Machine/Step.lean ====
section
/-! DEFINITION. One step: the environment's next move, or the core's next micro-operation or acceptance (R63, R67). -/

namespace Sys2Proof.Machine

/-- One step of the machine. `turns` says who moves; when it is empty the core does. -/
def step (s : State) : Host.Outcome State Fault Refusal :=
  match s.env.turns with
  | .env e :: rest => .next (({ s with env.turns := rest } : State).envMove e)
  | .core :: rest => coreMove { s with env.turns := rest }
  | [] => coreMove s

/-- `s` with the word `w` of `nbits` bits where `step` fetches its next instruction: a micro-operation is issued from outside, any
other word is the first waiting request of a core at IDLE; the core has the next move. -/
def State.withFetchWord (s : State) (nbits w : Nat) : State :=
  match decodeTableWord nbits w with
  | some i =>
    if i.isPublic then
      { s with
        S.phase := .idle
        env.turns := []
        env.bare := []
        env.requests := BitVec.ofNat 16 (w % 2 ^ nbits) :: s.env.requests }
    else { s with env.turns := [], env.bare := BitVec.ofNat 16 (w % 2 ^ nbits) :: s.env.bare }
  | none =>
    { s with
      S.phase := .idle
      env.turns := []
      env.bare := []
      env.requests := BitVec.ofNat 16 (w % 2 ^ nbits) :: s.env.requests }

end Sys2Proof.Machine
end

