-- ==== Sys2Proof/Safety.lean ====
section
/-! DEFINITION. What counts as a safe run, in the terms the claims use: the derived observations of R37 and R38, the invariants of R22
and R174, and the invariant of the sequencer at every phase label, from which they follow. -/

namespace Sys2Proof.Machine

/-! ### Derived observations -/

/-- `pwr(S, k)`: power line `k` is asserted (R37). -/
abbrev Selector.pwr (S : Selector) (k : BitVec 3) : Prop := S.dec.en = true ∧ S.dec.addr = k

/-- `dataPath(S, p)`: the data path of port `p` is closed (R38). -/
abbrev Selector.dataPath (S : Selector) (t : PortTable) (p : Port) : Prop :=
  S.tw.en = true ∧ S.tw.side = (t.get p).twoWaySide ∧ (S.mux (t.get p).muxSide).en = true ∧
    (S.mux (t.get p).muxSide).sel = (t.get p).muxSelect

/-- `connected(S, p)`: port `p` has its data path and its power (R38). -/
abbrev Selector.connected (S : Selector) (t : PortTable) (p : Port) : Prop :=
  S.dataPath t p ∧ S.pwr (t.get p).decoderAddress

/-! ### The invariants of the spec -/

/-- No route device is enabled. -/
abbrev Selector.allOff (S : Selector) : Prop :=
  S.tw.en = false ∧ S.mux0.en = false ∧ S.mux1.en = false ∧ S.dec.en = false

/-- Exactly the devices port `p` requires are enabled, with its settings (R22, second branch). -/
abbrev Selector.onRoute (S : Selector) (t : PortTable) (p : Port) : Prop :=
  S.tw.en = true ∧ S.tw.side = (t.get p).twoWaySide ∧
    (S.mux (t.get p).muxSide).en = true ∧ (S.mux (t.get p).muxSide).sel = (t.get p).muxSelect ∧
    (S.mux (t.get p).muxSide.other).en = false ∧
    S.dec.en = true ∧ S.dec.addr = (t.get p).decoderAddress

/-- `RouteInv(S)` (R22). -/
def Selector.routeInv (S : Selector) (t : PortTable) : Prop :=
  match S.activePort with
  | none => S.allOff
  | some p => S.onRoute t p

/-- `LedInv(S)` (R174). -/
abbrev Selector.ledInv (S : Selector) (t : PortTable) : Prop := S.led = ledByte t S.activePort

/-! ### The sequencer at every label -/

/-- Step 6 of the routing sequence is still to come: the data path is open, the chosen four-way switch and the two-way side are set. -/
abbrev Selector.routeSet (S : Selector) (t : PortTable) (p : Port) : Prop :=
  S.tw.en = false ∧ S.tw.side = (t.get p).twoWaySide ∧
    (S.mux (t.get p).muxSide).en = true ∧ (S.mux (t.get p).muxSide).sel = (t.get p).muxSelect ∧
    (S.mux (t.get p).muxSide.other).en = false ∧ S.dec.addr = (t.get p).decoderAddress

/-- What the route devices and `activePort` satisfy at each label (R155, R160, R203). -/
def Selector.deviceInv (S : Selector) (t : PortTable) : Prop :=
  match S.phase with
  | .idle => S.halted = false → S.routeInv t
  | .c1 => S.routeInv t
  | .c2 => S.tw.en = false
  | .c3 => S.tw.en = false ∧ S.mux0.en = false
  | .c4 => S.tw.en = false ∧ S.mux0.en = false ∧ S.mux1.en = false
  | .c5 => S.allOff
  | .c6 => S.allOff ∧ S.dec.addr = (t.get S.tgt).decoderAddress
  | .c7 => S.allOff ∧ S.dec.addr = (t.get S.tgt).decoderAddress ∧
      (S.mux (t.get S.tgt).muxSide).sel = (t.get S.tgt).muxSelect
  | .c8 => S.allOff ∧ S.dec.addr = (t.get S.tgt).decoderAddress ∧
      (S.mux (t.get S.tgt).muxSide).sel = (t.get S.tgt).muxSelect ∧ S.tw.side = (t.get S.tgt).twoWaySide
  | .c9 => S.routeSet t S.tgt ∧ S.dec.en = false
  | .c10 => S.routeSet t S.tgt ∧ S.dec.en = true
  | .c11 => S.routeSet t S.tgt ∧ S.dec.en = true
  | .c12 => S.onRoute t S.tgt
  | .d1 => S.routeInv t
  | .d2 => S.tw.en = false
  | .d3 => S.tw.en = false ∧ S.mux0.en = false
  | .d4 => S.tw.en = false ∧ S.mux0.en = false ∧ S.mux1.en = false
  | .d5 => S.allOff
  | .l1 => S.routeInv t
  | .i1 => S.routeInv t
  | .i2 => S.routeInv t
  | .i3 => S.routeInv t
  | .z1 => True
  | .z2 => True
  | .z3 => S.tw.en = false
  | .z4 => S.tw.en = false ∧ S.mux0.en = false
  | .z5 => S.tw.en = false ∧ S.mux0.en = false ∧ S.mux1.en = false
  | .z6 => S.allOff
  | .z7 => S.allOff
  | .z8 => S.allOff
  | .z9 => S.allOff
  | .z10 => S.allOff
  | .z11 => S.allOff ∧ S.activePort = none
  | .z12 => S.allOff ∧ S.activePort = none

/-- A label of the connect chain (R152). -/
def Phase.isConnect (l : Phase) : Bool :=
  l ∈ [Phase.c1, .c2, .c3, .c4, .c5, .c6, .c7, .c8, .c9, .c10, .c11, .c12]

/-- A label of the disconnect chain (R154). -/
def Phase.isDisconnect (l : Phase) : Bool := l ∈ [Phase.d1, .d2, .d3, .d4, .d5]

/-- A label of the interrupt handler itself (R185). -/
def Phase.isHandler (l : Phase) : Bool := l ∈ [Phase.i1, .i2, .i3]

/-- Who started the running sequence fits its label: only the handler is at I1 to I3, HALT never connects, the handler never
disconnects (R199, R206), and at L1 the handler has a port and HALT has none. -/
abbrev Selector.ctxInv (S : Selector) : Prop :=
  (S.phase.isHandler → S.ctx = .irq) ∧ (S.phase.isConnect → S.ctx ≠ .halt) ∧ (S.phase.isDisconnect → S.ctx ≠ .irq) ∧
  (S.phase = .l1 → S.ctx = .irq → S.activePort ≠ none) ∧ (S.phase = .l1 → S.ctx = .halt → S.activePort = none)

/-- While an operation runs the core is halted exactly when that operation is RESET (R32, R203). -/
abbrev Selector.haltInv (S : Selector) : Prop := S.phase ≠ .idle → S.halted = S.phase.isReset

/-- What the LED byte satisfies: with no bus failure since reset it shows `activePort` at every label but L1, where the refresh is still
to come (R174, R175); from Z2 on it is the idle value (R110). -/
abbrev Selector.lampInv (S : Selector) (t : PortTable) : Prop :=
  (S.faultSeen = false → S.halted = false → S.phase ≠ .l1 → S.ledInv t) ∧
  (S.phase.isReset → S.phase ≠ .z1 → S.led = 0xFF#8)

/-- The invariant of the machine: the table is well formed, nobody but the sequencer issues micro-operations (R39, R274), the record `S`
satisfies what its label demands, and while RESET runs no request waits but another RESET (R205, R207, R253). -/
structure State.inv (s : State) : Prop where
  table : s.par.table.wf
  owned : s.env.bare = []
  device : s.S.deviceInv s.par.table
  ctx : s.S.ctxInv
  halt : s.S.haltInv
  lamp : s.S.lampInv s.par.table
  swept : s.S.phase.isReset = true → ∀ w ∈ s.env.requests, w = 0x0500#16

/-! ### Refusals -/

/-- The words among `ws` that a halted core answers: RESET is not refused and IRQ has no caller (R98, R207). -/
abbrev answered (ws : List Word16) : List Word16 := ws.filter (fun w => w ≠ 0x0500#16 ∧ w ≠ 0x0400#16)

/-- The responses `l`, newest first, are a halted core's refusals of the words `ws`, one for each in their order, given to the caller:
`E_HALTED` for a public operation, `E_MALFORMED` or `E_HALTED` for any other word (R94, R98, R207). -/
abbrev answersRefusing (ws : List Word16) (l : List Response) : Prop :=
  l.length = (answered ws).length ∧
    ∀ p ∈ (answered ws).zip l.reverse, p.2.recipient = .caller ∧ p.2.status = none ∧
      (p.2.code = .eHalted ∨ p.2.code = .eMalformed ∧ ∀ i, decode p.1 = .ok i → i.isPublic = false)

/-! ### Frames -/

/-- Everything a micro-operation `i` that uses no bus leaves alone outside its own field (R129): the parameters, the environment, the
responses and the mark are kept, it is traced at its label, and the label becomes its successor exactly when the sequencer
issued it. -/
abbrev State.microFrame (s : State) (i : Instr) (t : State) : Prop :=
  t.par = s.par ∧ t.env = s.env ∧ t.obs.responses = s.obs.responses ∧
  t.obs.trace = .done s.S.phase (encode i) :: s.obs.trace ∧
  t.S.phase = if s.nextMicro = some i then s.S.phase.succ else s.S.phase

/-- The next transaction of the bank micro-operation `i` fails (R212). -/
abbrev State.busFailsFor (s : State) (i : Instr) : Prop :=
  ((i = .expInit ∨ ∃ b, i = .expWrite b) ∧ s.busAnswer = .busfail) ∨ (i = .expRead ∧ s.readByte = none)

/-- `i` is the last micro-operation of RESET, at Z12 (R203). -/
abbrev State.endsReset (s : State) (i : Instr) : Prop := s.S.phase = .z12 ∧ i = .setSample s.S.smp

/-- The core has the next move and nobody else issues micro-operations. -/
abbrev State.coreMoves (s : State) : Prop := s.env.turns = [] ∧ s.env.bare = []

/-- The core is at IDLE, takes requests, and the first waiting word is the operation `i`. -/
abbrev State.aboutToAccept (s : State) (i : Instr) (rest : List Word16) : Prop :=
  s.coreMoves ∧ s.S.phase = .idle ∧ ∃ w, s.env.requests = w :: rest ∧ decode w = .ok i

end Sys2Proof.Machine
end

