-- ==== Sys2Proof/Certificates/Slice0/Obligations.lean ====
section
/-! DEFINITION. The statements for the provers. Each docstring names the rules of spec/ it formalises. -/

open Sys2Proof Sys2Proof.Machine

/-! ### Encoding -/

/-- Every well-formed operation, with every operand its encoding admits, is decoded from its own word (R90 to R92, R95). The
encodings are the spec's own choice (D8). -/
def Obligations.DecodeInvertsEncode : Prop :=
  ∀ i : Instr, i.wf = true → decode (encode i) = .ok i

/-- Each word has one meaning: what the decoder accepts encodes back to the same word (R90 to R92, R95). -/
def Obligations.EncodeInvertsDecode : Prop :=
  ∀ (w : Word16) (i : Instr), decode w = .ok i → i.wf = true ∧ encode i = w

/-- The decoder accepts exactly the words some row of R95 admits, the row is the one with the operation's mnemonic, and no word matches
two rows; every other word is reserved (R94, R95). -/
def Obligations.OpcodeMapIsDecoded : Prop :=
  ∀ w : Word16,
    ((∃ i, decode w = .ok i) ↔ reservedWord w = false) ∧
    (∀ i, decode w = .ok i →
      ∃ r ∈ opcodeRows, r.mnemonic.toList = i.mnemonic ∧ r.admits w = true ∧
        ∀ q ∈ opcodeRows, q.admits w = true → q = r)

/-- A few words of the spec's vector V-ENC-1, V-ENC-2 and V-ENC-3 decode to the operation they stand for, or to the named reason. -/
def Obligations.SpecWordsDecode : Prop :=
  decode 0x0103#16 = .ok (.select 3) ∧ decode 0x01FF#16 = .ok (.select (-1)) ∧ decode 0x0500#16 = .ok .reset ∧
  decode 0x1201#16 = .ok (.twRoute .second) ∧ decode 0x2212#16 = .ok (.muxSelect .second 2) ∧
  decode 0x3206#16 = .ok (.decAddr 6) ∧ decode 0x42EF#16 = .ok (.expWrite 0xEF#8) ∧
  decode 0x5100#16 = .ok .waitSettle ∧ decode 0x6008#16 = .ok (.setActive none) ∧
  decode 0x0000#16 = .error .reservedOpcode ∧ decode 0x0201#16 = .error .reservedArgument ∧
  decode 0x6009#16 = .error .reservedActiveCode

/-- Serialised into bytes, the opcode byte (bits 15:8) comes first (R59); bytes that follow are left over. -/
def Obligations.BytesCarryOpcodeFirst : Prop :=
  ∀ (w : Word16) (rest : List Byte),
    wordBytes w = [w.extractLsb' 8 8, w.extractLsb' 0 8] ∧
    (∀ i, decode w = .ok i → decodeBytes (wordBytes w ++ rest) = .ok (i, rest)) ∧
    (∀ e, decode w = .error e → decodeBytes (wordBytes w ++ rest) = .error e)

/-- The packed descriptor of R85: each field at its bits, packing loses nothing, and the eight words of `T0`. -/
def Obligations.DescriptorPacking : Prop :=
  (∀ d : PortDescriptor,
    (d.pack.extractLsb' 13 3).toNat = d.index.val ∧ (d.pack.extractLsb' 10 3).toNat = d.inputBit.val ∧
    (d.pack.extractLsb' 7 3).toNat = d.outputBit.val ∧ d.pack.getLsbD 6 = d.muxSide.bit ∧
    d.pack.extractLsb' 4 2 = d.muxSelect ∧ d.pack.getLsbD 3 = d.twoWaySide.bit ∧
    d.pack.extractLsb' 0 3 = d.decoderAddress) ∧
  (∀ d : PortDescriptor, PortDescriptor.unpack d.pack = d) ∧
  (∀ w : Word16, (PortDescriptor.unpack w).pack = w) ∧
  ports.map (fun p => (PortTable.t0.get p).pack) =
    [0x1F80#16, 0x3B11#16, 0x56A2#16, 0x7233#16, 0x8DCC#16, 0xA95D#16, 0xC4EE#16, 0xE07F#16]

/-! ### The route device micro-operations -/

/-- TW_DISABLE, TW_ENABLE and TW_ROUTE, issued by the sequencer or, as notes/assumptions 7 lets the model have it, by anybody: their words, the one field each writes, and everything else kept
(R120, R121, R122); a side written while the switch is enabled is applied and marked (R269). -/
def Obligations.TwoWaySwitchSetters : Prop :=
  ∀ (s : State) (side : Side),
    (encode .twDisable = 0x1000#16 ∧ ∃ t, exec .twDisable s = .next t ∧
      t.S = { s.S with tw := ⟨false, s.S.tw.side⟩, phase := t.S.phase } ∧ s.microFrame .twDisable t ∧
      t.obs.hazard = s.obs.hazard ∧ ∀ p, ¬ t.S.dataPath t.par.table p) ∧
    (encode .twEnable = 0x1100#16 ∧ ∃ t, exec .twEnable s = .next t ∧
      t.S = { s.S with tw := ⟨true, s.S.tw.side⟩, phase := t.S.phase } ∧ s.microFrame .twEnable t ∧
      t.obs.hazard = s.obs.hazard) ∧
    (encode (.twRoute side) = 0x1200#16 ||| (BitVec.ofBool side.bit).setWidth 16 ∧ ∃ t, exec (.twRoute side) s = .next t ∧
      t.S = { s.S with tw := ⟨s.S.tw.en, side⟩, phase := t.S.phase } ∧ s.microFrame (.twRoute side) t ∧
      t.obs.hazard = (s.obs.hazard || s.S.tw.en))

/-- MUX_DISABLE, MUX_ENABLE and MUX_SELECT: their words, the one field of the named instance each writes, the other instance and everything
else kept (R123, R124, R125); a selection written while the instance is enabled is applied and marked (R269). -/
def Obligations.FourWaySwitchSetters : Prop :=
  ∀ (s : State) (m : Side) (n : BitVec 2),
    (encode (.muxDisable m) = 0x2000#16 ||| (BitVec.ofBool m.bit).setWidth 16 <<< 4 ∧
      ∃ t, exec (.muxDisable m) s = .next t ∧ t.S.mux m = ⟨false, (s.S.mux m).sel⟩ ∧
      t.S.mux m.other = s.S.mux m.other ∧ t.S = { s.S with mux0 := t.S.mux0, mux1 := t.S.mux1, phase := t.S.phase } ∧
      s.microFrame (.muxDisable m) t ∧ t.obs.hazard = s.obs.hazard) ∧
    (encode (.muxEnable m) = 0x2100#16 ||| (BitVec.ofBool m.bit).setWidth 16 <<< 4 ∧
      ∃ t, exec (.muxEnable m) s = .next t ∧ t.S.mux m = ⟨true, (s.S.mux m).sel⟩ ∧
      t.S.mux m.other = s.S.mux m.other ∧ t.S = { s.S with mux0 := t.S.mux0, mux1 := t.S.mux1, phase := t.S.phase } ∧
      s.microFrame (.muxEnable m) t ∧ t.obs.hazard = s.obs.hazard) ∧
    (encode (.muxSelect m n) = 0x2200#16 ||| (BitVec.ofBool m.bit).setWidth 16 <<< 4 ||| n.setWidth 16 ∧
      ∃ t, exec (.muxSelect m n) s = .next t ∧ t.S.mux m = ⟨(s.S.mux m).en, n⟩ ∧
      t.S.mux m.other = s.S.mux m.other ∧ t.S = { s.S with mux0 := t.S.mux0, mux1 := t.S.mux1, phase := t.S.phase } ∧
      s.microFrame (.muxSelect m n) t ∧ t.obs.hazard = (s.obs.hazard || (s.S.mux m).en))

/-- DEC_DISABLE, DEC_ENABLE and DEC_ADDR: their words, the one field each writes, everything else kept, and the power lines after them
(R126, R127, R128); an address written while the decoder is enabled is applied and marked (R269). -/
def Obligations.DecoderSetters : Prop :=
  ∀ (s : State) (a : BitVec 3),
    (encode .decDisable = 0x3000#16 ∧ ∃ t, exec .decDisable s = .next t ∧
      t.S = { s.S with dec := ⟨false, s.S.dec.addr⟩, phase := t.S.phase } ∧ s.microFrame .decDisable t ∧
      t.obs.hazard = s.obs.hazard ∧ ∀ k, ¬ t.S.pwr k) ∧
    (encode .decEnable = 0x3100#16 ∧ ∃ t, exec .decEnable s = .next t ∧
      t.S = { s.S with dec := ⟨true, s.S.dec.addr⟩, phase := t.S.phase } ∧ s.microFrame .decEnable t ∧
      t.obs.hazard = s.obs.hazard ∧ ∀ k, t.S.pwr k ↔ k = s.S.dec.addr) ∧
    (encode (.decAddr a) = 0x3200#16 ||| a.setWidth 16 ∧ ∃ t, exec (.decAddr a) s = .next t ∧
      t.S = { s.S with dec := ⟨s.S.dec.en, a⟩, phase := t.S.phase } ∧ s.microFrame (.decAddr a) t ∧
      t.obs.hazard = (s.obs.hazard || s.S.dec.en))

/-- WAIT_DEBOUNCE and WAIT_SETTLE write no field of the record but the label the sequencer moves to (R131, R132). -/
def Obligations.WaitsWriteNothing : Prop :=
  ∀ s : State,
    (encode .waitDebounce = 0x5000#16 ∧ ∃ t, exec .waitDebounce s = .next t ∧ t.S = { s.S with phase := t.S.phase } ∧
      s.microFrame .waitDebounce t ∧ t.obs.hazard = s.obs.hazard) ∧
    (encode .waitSettle = 0x5100#16 ∧ ∃ t, exec .waitSettle s = .next t ∧ t.S = { s.S with phase := t.S.phase } ∧
      s.microFrame .waitSettle t ∧ t.obs.hazard = s.obs.hazard)

/-- SET_ACTIVE writes `activePort` and touches no device (R134). -/
def Obligations.SetActiveWritesActivePort : Prop :=
  ∀ (s : State) (v : Option Port),
    encode (.setActive v) = 0x6000#16 ||| (activeCode v).setWidth 16 ∧
    ∃ t, exec (.setActive v) s = .next t ∧ t.S = { s.S with activePort := v, phase := t.S.phase } ∧
      s.microFrame (.setActive v) t ∧ t.obs.hazard = s.obs.hazard

/-- SET_SAMPLE writes `lastSample` and nothing else where the sequencer does not issue it (R135); at I3 it ends the handler (R190) and at Z12
it ends RESET: `halted <- 0`, `OK`, IDLE, the latched operands unspecified (R43, R203). That the handler's `OK` is given to the trace only
is the model's reading of R98 (notes/assumptions 22). -/
def Obligations.SetSampleWritesLastSample : Prop :=
  ∀ (s : State) (b : Byte),
    encode (.setSample b) = 0x6100#16 ||| b.setWidth 16 ∧
    ∃ t, exec (.setSample b) s = .next t ∧ t.S.lastSample = b ∧ t.par = s.par ∧ t.obs.hazard = s.obs.hazard ∧
      t.obs.trace = .done s.S.phase (encode (.setSample b)) :: s.obs.trace ∧
      t.env = { s.env with free := t.env.free } ∧
      (s.nextMicro ≠ some (.setSample b) →
        t.S = { s.S with lastSample := b } ∧ t.env = s.env ∧ t.obs.responses = s.obs.responses) ∧
      (s.S.phase = .i3 → b = s.S.smp →
        t.S = { s.S with lastSample := b, phase := .idle } ∧ t.env = s.env ∧
          t.obs.responses = ⟨.traceOnly, .ok, none⟩ :: s.obs.responses) ∧
      (s.S.phase = .z12 → b = s.S.smp →
        t.S = { s.S with lastSample := b, phase := .idle, halted := false, tgt := t.S.tgt, smp := t.S.smp, ctx := t.S.ctx } ∧
          t.obs.responses = ⟨.caller, .ok, none⟩ :: s.obs.responses)

/-! ### The expander micro-operations -/

/-- EXP_INIT whose transaction completes: `led <- 0xFF`, the latch unspecified, everything else kept (R110). -/
def Obligations.ExpInitSetsIdleByte : Prop :=
  ∀ s : State, s.busAnswer = .ok →
    encode .expInit = 0x4000#16 ∧
    ∃ t, exec .expInit s = .next t ∧
      t.S = { s.S with led := 0xFF#8, intLatch := t.S.intLatch, phase := t.S.phase } ∧
      t.S.phase = (if s.nextMicro = some .expInit then s.S.phase.succ else s.S.phase) ∧
      t.par = s.par ∧ t.env = { s.useBus.env with free := t.env.free } ∧ t.obs.responses = s.obs.responses ∧
      t.obs.trace = .done s.S.phase 0x4000#16 :: s.obs.trace ∧ t.obs.hazard = s.obs.hazard

/-- EXP_READ that succeeds: the byte goes to `smp` and the latch is cleared (R55, R111); where the answer is the panel's level at the
moment of the read, that byte is the content of the input bank (R56, R71). If the latch was set and the core is not halted, the
line's change adds one IRQ request at the place `readNotice` gives or, where that is `none`, is merged with an IRQ that waits and,
with none waiting, is added at the end (R57); the place and the merging, which R221 leaves open, are the model's choice
(notes/assumptions 9). Only the label, and at I2 the latched target, may change besides. The table is well formed where the handler
chooses a port (R34). -/
def Obligations.ExpReadLatchesSample : Prop :=
  ∀ (s : State) (b : Byte), s.readByte = some b → (s.S.phase = .i2 → s.par.table.wf) →
    encode .expRead = 0x4100#16 ∧ (∀ n, s.readAnswer = .level n → b = s.env.panel) ∧
    ∃ t, exec .expRead s = .next t ∧ t.S.smp = b ∧ t.S.intLatch = false ∧
      t.S = { s.S with smp := b, intLatch := false, tgt := t.S.tgt, phase := t.S.phase } ∧
      (s.S.phase ≠ .i2 → t.S.tgt = s.S.tgt ∧ t.obs.responses = s.obs.responses ∧
        t.S.phase = if s.S.phase = .z11 then .z12 else s.S.phase) ∧
      t.par = s.par ∧ t.obs.hazard = s.obs.hazard ∧ t.obs.trace = .done s.S.phase 0x4100#16 :: s.obs.trace ∧
      t.env.panel = s.env.panel ∧ t.env.turns = s.env.turns ∧ t.env.bare = s.env.bare ∧ t.env.busScript = s.env.busScript ∧
      t.env.readScript = s.env.readScript.tail ∧
      t.env.requests =
        if s.S.intLatch = true ∧ s.S.halted = false then
          match s.readNotice with
          | some n => insertAt n 0x0400#16 s.env.requests
          | none => if 0x0400#16 ∈ s.env.requests then s.env.requests else s.env.requests ++ [0x0400#16]
        else s.env.requests

/-- EXP_WRITE that succeeds: the whole output byte is replaced (R54, R112); only the label, and at L1 what R173 says of the end of the
operation, changes besides. -/
def Obligations.ExpWriteReplacesByte : Prop :=
  ∀ (s : State) (b : Byte), s.busAnswer = .ok →
    encode (.expWrite b) = 0x4200#16 ||| b.setWidth 16 ∧
    ∃ t, exec (.expWrite b) s = .next t ∧ t.S.led = b ∧
      t.S = { s.S with led := b, phase := t.S.phase, halted := t.S.halted } ∧
      (s.S.phase ≠ .l1 → t.S = { s.S with led := b } ∧ t.obs.responses = s.obs.responses) ∧
      (t.S.halted ≠ s.S.halted → s.S.phase = .l1 ∧ s.S.ctx = .halt) ∧
      t.par = s.par ∧ t.env = s.useBus.env ∧ t.obs.hazard = s.obs.hazard ∧
      t.obs.trace = .done s.S.phase (encode (.expWrite b)) :: s.obs.trace

/-- `raise BusFault`: wherever a transaction fails (the LED write of HALT and the two failures of RESET have statements of their own),
`faultSeen` is set, the phase is IDLE, the kind's code is given, the micro-operation's own write does not happen, and
everything already done stays (R212, R214); `led` and `intLatch` are unspecified where R110 to R112 say so. That this holds at every label,
so of a transaction an outside issuer starts away from Z1, I2, Z11 and L1 too, is the model's reading (notes/assumptions 13). -/
def Obligations.BusFailureAbandonsOperation : Prop :=
  ∀ (s : State) (b : Byte),
    (s.busAnswer = .busfail → s.S.phase ≠ .z1 → ∃ t r, exec .expInit s = .next t ∧
      t.S = { s.S with led := t.S.led, intLatch := t.S.intLatch, faultSeen := true, phase := .idle } ∧
      t.obs.responses = ⟨r, .eBusInit, none⟩ :: s.obs.responses ∧
      t.obs.trace = .failed s.S.phase 0x4000#16 .init :: s.obs.trace ∧ t.par = s.par) ∧
    (s.readByte = none → s.S.phase ≠ .z11 → ∃ t r, exec .expRead s = .next t ∧
      t.S = { s.S with intLatch := t.S.intLatch, faultSeen := true, phase := .idle } ∧
      t.obs.responses = ⟨r, .eBusRead, none⟩ :: s.obs.responses ∧
      t.obs.trace = .failed s.S.phase 0x4100#16 .read :: s.obs.trace ∧ t.par = s.par) ∧
    (s.busAnswer = .busfail → ¬ (s.S.phase = .l1 ∧ s.S.ctx = .halt) → ∃ t r, exec (.expWrite b) s = .next t ∧
      t.S = { s.S with led := t.S.led, faultSeen := true, phase := .idle } ∧
      t.obs.responses = ⟨r, .eBusWrite, none⟩ :: s.obs.responses ∧
      t.obs.trace = .failed s.S.phase (encode (.expWrite b)) .write :: s.obs.trace ∧ t.par = s.par)

/-! ### The public operations -/

/-- SELECT at IDLE in a core that is not halted: the three branches of R150. -/
def Obligations.SelectDispatch : Prop :=
  ∀ (s : State) (idx : Int), s.S.phase = .idle → s.S.halted = false →
    (idx < 0 ∨ 7 < idx →
      exec (.select idx) s = .next { s with S := { s.S with ctx := .cmd, phase := .d1 } }) ∧
    (∀ p : Port, idx = p.val → s.S.activePort = some p →
      exec (.select idx) s = .next { s with S := { s.S with ctx := .cmd, phase := .l1 } }) ∧
    (∀ p : Port, idx = p.val → s.S.activePort ≠ some p →
      exec (.select idx) s = .next { s with S := { s.S with ctx := .cmd, tgt := p, phase := .c1 } })

/-- DISCONNECT and HALT at IDLE start the disconnect chain, RESET its own, IRQ the handler, saving nothing (R151, R203, R206, R229). RESET
is accepted whether the core is halted or not; the requests that wait were sent before it has answered `OK` and are refused as a
halted core refuses them, but for another RESET, which keeps waiting (R207, R253). That they are refused at the acceptance is the
model's reading (notes/assumptions 23). -/
def Obligations.OperationsStart : Prop :=
  ∀ s : State, s.S.phase = .idle →
    (s.S.halted = false →
      exec .disconnect s = .next { s with S := { s.S with ctx := .cmd, phase := .d1 } } ∧
      exec .halt s = .next { s with S := { s.S with ctx := .halt, phase := .d1 } } ∧
      exec .irq s = .next { s with S := { s.S with ctx := .irq, phase := .i1 } }) ∧
    ∃ l n, answersRefusing s.env.requests l ∧
      exec .reset s = .next { s with
        S := { s.S with faultSeen := false, halted := true, phase := .z1 }
        env := { s.env with requests := s.env.requests.filter (· = 0x0500#16), free := n }
        obs := { s.obs with responses := l ++ s.obs.responses } }

/-- STATUS answers `OK` with the status word of R97 and writes no field (R200); in a state the machine keeps it sees `RouteInv`. -/
def Obligations.StatusReports : Prop :=
  ∀ s : State, s.S.phase = .idle → s.S.halted = false →
    encode .status = 0x0300#16 ∧
    (∃ w : Word16,
      exec .status s = .next { s with obs := { s.obs with responses := ⟨.caller, .ok, some w⟩ :: s.obs.responses } } ∧
      w.extractLsb' 12 4 = activeCode s.S.activePort ∧ w.getLsbD 11 = s.S.tw.en ∧ w.getLsbD 10 = s.S.tw.side.bit ∧
      w.getLsbD 9 = s.S.mux0.en ∧ w.extractLsb' 7 2 = s.S.mux0.sel ∧ w.getLsbD 6 = s.S.mux1.en ∧
      w.extractLsb' 4 2 = s.S.mux1.sel ∧ w.getLsbD 3 = s.S.dec.en ∧ w.extractLsb' 0 3 = s.S.dec.addr) ∧
    (s.inv → s.S.routeInv s.par.table)

/-- While the core is halted SELECT, DISCONNECT, STATUS and HALT are answered `E_HALTED` and IRQ is dropped; none changes a field, and
RESET is accepted (R207). -/
def Obligations.HaltedCoreRefuses : Prop :=
  ∀ (s : State) (idx : Int), s.S.halted = true →
    (∀ i ∈ [Instr.select idx, .disconnect, .status, .halt],
      exec i s = .next { s with obs := { s.obs with responses := ⟨.caller, .eHalted, none⟩ :: s.obs.responses } }) ∧
    exec .irq s = .next s ∧
    (s.S.phase = .idle → ∃ t, exec .reset s = .next t ∧ t.S.phase = .z1)

/-- While an operation runs a public operation is not accepted: it waits behind the other requests, and no field of the record changes
(R67, R69). Where in the sequence it waits is the model's choice (notes/assumptions 12). -/
def Obligations.BusyCoreLetsRequestsWait : Prop :=
  ∀ (s : State) (i : Instr), s.S.phase ≠ .idle → i.isPublic = true → s.S.halted = false ∨ i = .reset →
    ∃ w, exec i s = .next { s with env := { s.env with requests := s.env.requests ++ [w] } } ∧ (i.wf = true → decode w = .ok i)

/-! ### One step -/

/-- At IDLE, with the core to move and a word waiting that is a public operation, a step takes the word and runs that operation. -/
def Obligations.StepRunsWaitingRequest : Prop :=
  ∀ (s : State) (w : Word16) (rest : List Word16) (i : Instr),
    s.coreMoves → s.S.phase = .idle → s.env.requests = w :: rest → decode w = .ok i → i.isPublic = true →
    step s = exec i { s with env := { s.env with requests := rest } }

/-- While an operation runs, with the core to move, a step runs the micro-operation its phase label names (R28, R63). -/
def Obligations.StepRunsPhaseMicroOperation : Prop :=
  ∀ (s : State) (i : Instr), s.coreMoves → s.nextMicro = some i → step s = exec i s

/-- A micro-operation word issued by somebody else is run at once, at any label: the model lets it be issued, which R269 leaves to the model (notes/assumptions 7). -/
def Obligations.StepRunsOutsideMicroOperation : Prop :=
  ∀ (s : State) (w : Word16) (rest : List Word16) (i : Instr),
    s.env.turns = [] → s.env.bare = w :: rest → decode w = .ok i → i.isPublic = false →
    step s = exec i { s with env := { s.env with bare := rest } }

/-- A word placed by `withFetchWord` is what the next step runs. `withFetchWord` stands for a requester or an outside issuer; that it puts the
core at IDLE and empties `bare` for a public word is the model's choice (notes/assumptions 6). -/
def Obligations.StepRunsPlacedWord : Prop :=
  ∀ (s : State) (w : Nat) (i : Instr), decodeTableWord 16 w = some i →
    (i.isPublic = true →
      step (s.withFetchWord 16 w) =
        exec i { s with S := { s.S with phase := .idle }, env := { s.env with turns := [], bare := [] } }) ∧
    (i.isPublic = false → step (s.withFetchWord 16 w) = exec i { s with env := { s.env with turns := [] } })

/-- A reserved word, or a micro-operation word, waiting at the command port is answered `E_MALFORMED` by a core that is not halted and changes
no field (R94, R96). By a halted core it is answered `E_MALFORMED` (R94) or `E_HALTED` (R98), the spec says both and the model leaves
the code free (notes/assumptions 10), and it changes no field either. -/
def Obligations.MalformedWordsChangeNothing : Prop :=
  ∀ (s : State) (w : Word16) (rest : List Word16),
    s.coreMoves → s.S.phase = .idle → s.env.requests = w :: rest →
    reservedWord w = true ∨ (∃ i, decode w = .ok i ∧ i.isPublic = false) →
    (s.S.halted = false →
      step s = .next { s with
        env := { s.env with requests := rest }
        obs := { s.obs with responses := ⟨.caller, .eMalformed, none⟩ :: s.obs.responses } }) ∧
    (s.S.halted = true → ∃ c n, (c = .eMalformed ∨ c = .eHalted) ∧
      step s = .next { s with
        env := { s.env with requests := rest, free := n }
        obs := { s.obs with responses := ⟨.caller, c, none⟩ :: s.obs.responses } })

/-- The panel moves: a change of any bit while the latch is clear sets it and, if the core is not halted, adds one IRQ request at the place the
environment gives, or, where the move says that the notification is merged, none if an IRQ waits already and one at the end if none
does; a change while the latch is set, and no change, only move the panel (R56, R57, R113). The place and the merging, which R221
leaves open, are the model's choice (notes/assumptions 9). -/
def Obligations.PanelChangeNotifies : Prop :=
  ∀ (s : State) (b : Byte) (notice : Option Nat) (rest : List Turn), s.env.turns = .env (.panel b notice) :: rest →
    ∃ t, step s = .next t ∧ t.env.panel = b ∧ t.env.turns = rest ∧ t.par = s.par ∧ t.obs = s.obs ∧
      t.S = { s.S with intLatch := decide (b ≠ s.env.panel) || s.S.intLatch } ∧
      t.env.requests =
        if b ≠ s.env.panel ∧ s.S.intLatch = false ∧ s.S.halted = false then
          match notice with
          | some n => insertAt n 0x0400#16 s.env.requests
          | none => if 0x0400#16 ∈ s.env.requests then s.env.requests else s.env.requests ++ [0x0400#16]
        else s.env.requests

/-- A requester presents a word: it waits at its place (R67, R69); while the core is halted only RESET waits, IRQ is dropped, the other
public operations are answered `E_HALTED`, and a reserved or micro-operation word is answered `E_MALFORMED` or `E_HALTED`, a free
choice of the two (R94, R98, notes/assumptions 10), with no field changed (R113, R207, R253). That a halted core answers the
moment the word is presented is the model's reading (notes/assumptions 11). -/
def Obligations.RequestsReachTheCore : Prop :=
  ∀ (s : State) (w : Word16) (n : Nat) (rest : List Turn), s.env.turns = .env (.request w n) :: rest →
    (s.S.halted = false ∨ decode w = .ok .reset →
      step s = .next { s with env := { s.env with turns := rest, requests := insertAt n w s.env.requests } }) ∧
    (s.S.halted = true → decode w = .ok .irq → step s = .next { s with env := { s.env with turns := rest } }) ∧
    (s.S.halted = true → (∃ i, decode w = .ok i ∧ i.isPublic = true ∧ i ≠ .reset ∧ i ≠ .irq) →
      step s = .next { s with
        env := { s.env with turns := rest }
        obs := { s.obs with responses := ⟨.caller, .eHalted, none⟩ :: s.obs.responses } }) ∧
    (s.S.halted = true → reservedWord w = true ∨ (∃ i, decode w = .ok i ∧ i.isPublic = false) →
      ∃ c n, (c = .eMalformed ∨ c = .eHalted) ∧
        step s = .next { s with
          env := { s.env with turns := rest, free := n }
          obs := { s.obs with responses := ⟨.caller, c, none⟩ :: s.obs.responses } })

/-- A power failure, at any label, leaves the core halted, as before the first RESET (R240, R251). That its label is then IDLE, and that the
panel, the waiting requests and what was answered stay, is the model's choice (notes/assumptions 15). -/
def Obligations.PowerFailureHaltsTheCore : Prop :=
  ∀ (s : State) (rest : List Turn), s.env.turns = .env .powerCycle :: rest →
    ∃ t, step s = .next t ∧ t.S.halted = true ∧ t.S.phase = .idle ∧ t.par = s.par ∧
      t.env = { s.env with turns := rest, free := t.env.free } ∧ t.obs = s.obs

/-! ### The sequencer -/

/-- From C1 the sequencer executes exactly the twelve micro-operations of `connectPort(tgt)`, in order, one a step, and is then at L1 with
`activePort = tgt` and exactly that port's devices enabled; `lastSample`, the LED byte, the selection of the other four-way
switch and the latched operands are as they were (R152, R155). The order inside source steps 1 and 3, which the trace fixes, is the order of
mention (R64, D6), the model's choice of notes/assumptions 17. -/
def Obligations.ConnectSequence : Prop :=
  ∀ s : State, s.coreMoves → s.S.phase = .c1 →
    ∃ t, Host.Core.run Sys2Proof.core 12 s = .next t ∧ t.S.phase = .l1 ∧ t.S.activePort = some s.S.tgt ∧
      t.S.onRoute s.par.table s.S.tgt ∧
      (t.S.mux (s.par.table.get s.S.tgt).muxSide.other).sel = (s.S.mux (s.par.table.get s.S.tgt).muxSide.other).sel ∧
      t.S = { s.S with activePort := t.S.activePort, tw := t.S.tw, mux0 := t.S.mux0, mux1 := t.S.mux1, dec := t.S.dec,
                       phase := .l1 } ∧
      t.obs.trace =
        [TraceEntry.done .c12 (encode (.setActive (some s.S.tgt))), .done .c11 0x1100#16, .done .c10 0x5100#16,
         .done .c9 0x3100#16, .done .c8 (encode (.muxEnable (s.par.table.get s.S.tgt).muxSide)),
         .done .c7 (encode (.twRoute (s.par.table.get s.S.tgt).twoWaySide)),
         .done .c6 (encode (.muxSelect (s.par.table.get s.S.tgt).muxSide (s.par.table.get s.S.tgt).muxSelect)),
         .done .c5 (encode (.decAddr (s.par.table.get s.S.tgt).decoderAddress)), .done .c4 0x3000#16,
         .done .c3 0x2010#16, .done .c2 0x2000#16, .done .c1 0x1000#16] ++ s.obs.trace ∧
      t.par = s.par ∧ t.env = s.env ∧ t.obs.responses = s.obs.responses

/-- From D1 the sequencer executes exactly the five micro-operations of `disconnectAll()` and is then at L1 with nothing connected; no
side, selection or address is written (R154, R155). The order of the four disables inside source step 1, which the trace fixes, is the order
of mention (R64, D6), the model's choice of notes/assumptions 17. -/
def Obligations.DisconnectSequence : Prop :=
  ∀ s : State, s.coreMoves → s.S.phase = .d1 →
    ∃ t, Host.Core.run Sys2Proof.core 5 s = .next t ∧
      t.S = { s.S with activePort := none, tw := ⟨false, s.S.tw.side⟩, mux0 := ⟨false, s.S.mux0.sel⟩,
                       mux1 := ⟨false, s.S.mux1.sel⟩, dec := ⟨false, s.S.dec.addr⟩, phase := .l1 } ∧
      t.obs.trace = [TraceEntry.done .d5 0x6008#16, .done .d4 0x3000#16, .done .d3 0x2010#16, .done .d2 0x2000#16,
        .done .d1 0x1000#16] ++ s.obs.trace ∧
      t.par = s.par ∧ t.env = s.env ∧ t.obs.responses = s.obs.responses

/-- What follows the LED write at L1, for each context, whether it succeeds or fails (R171, R173, and R206 for HALT's `OK`). That the code of
a refresh that fails in the handler goes to the trace only is the model's reading of R98 (notes/assumptions 22). -/
def Obligations.AfterTheRefresh : Prop :=
  ∀ s : State, s.coreMoves → s.S.phase = .l1 →
    ∃ t, step s = .next t ∧ t.par = s.par ∧
      (s.busAnswer = .ok → s.S.ctx = .cmd →
        t.S = { s.S with led := ledByte s.par.table s.S.activePort, phase := .idle } ∧
          t.obs.responses = ⟨.caller, .ok, none⟩ :: s.obs.responses) ∧
      (s.busAnswer = .ok → s.S.ctx = .irq →
        t.S = { s.S with led := ledByte s.par.table s.S.activePort, phase := .i3 } ∧ t.obs.responses = s.obs.responses) ∧
      (s.busAnswer = .ok → s.S.ctx = .halt →
        t.S = { s.S with led := ledByte s.par.table s.S.activePort, phase := .idle, halted := true } ∧
          t.obs.responses = ⟨.caller, .ok, none⟩ :: s.obs.responses) ∧
      (s.busAnswer = .busfail → s.S.ctx = .cmd →
        t.S = { s.S with led := t.S.led, phase := .idle, faultSeen := true } ∧
          t.obs.responses = ⟨.caller, .eBusWrite, none⟩ :: s.obs.responses) ∧
      (s.busAnswer = .busfail → s.S.ctx = .irq →
        t.S = { s.S with led := t.S.led, phase := .idle, faultSeen := true } ∧
          t.obs.responses = ⟨.traceOnly, .eBusWrite, none⟩ :: s.obs.responses) ∧
      (s.busAnswer = .busfail → s.S.ctx = .halt →
        t.S = { s.S with led := t.S.led, phase := .idle, faultSeen := true, halted := true } ∧
          t.obs.responses = ⟨.caller, .ok, none⟩ :: s.obs.responses)

/-- What the handler does with the byte it read at I2: discard it, absorb a press, refresh the LED of the active port, or start the
connect of the least port whose switch was released, which exists whenever a bit rose (R187, R189, R192, R193). -/
def Obligations.EdgeDecision : Prop :=
  ∀ (s : State) (b : Byte), s.coreMoves → s.S.phase = .i2 → s.par.table.wf → s.readByte = some b →
    (~~~s.S.lastSample &&& b ≠ 0#8 →
      ∃ p : Port, (~~~s.S.lastSample &&& b).getLsbD (s.par.table.get p).inputBit = true ∧
        ∀ q < p, (~~~s.S.lastSample &&& b).getLsbD (s.par.table.get q).inputBit = false) ∧
    ∃ t, step s = .next t ∧
      (s.S.lastSample ^^^ b = 0#8 → t.S = { s.S with smp := b, intLatch := false, phase := .idle }) ∧
      (s.S.lastSample ^^^ b ≠ 0#8 → ~~~s.S.lastSample &&& b = 0#8 →
        t.S = { s.S with smp := b, intLatch := false, phase := .i3 }) ∧
      (∀ p : Port, (~~~s.S.lastSample &&& b).getLsbD (s.par.table.get p).inputBit = true →
        (∀ q < p, (~~~s.S.lastSample &&& b).getLsbD (s.par.table.get q).inputBit = false) →
        t.S = if s.S.activePort = some p then { s.S with smp := b, intLatch := false, phase := .l1 }
              else { s.S with smp := b, intLatch := false, tgt := p, phase := .c1 })

/-- The priority mux finds a port for every rising bit of a well-formed table, the least one whose input bit rose, and none when no bit
rose (R189, R226). -/
def Obligations.PriorityIsLeastReleasedPort : Prop :=
  ∀ (t : PortTable) (rising : Byte), t.wf →
    (rising = 0#8 → prio t rising = none) ∧
    (rising ≠ 0#8 → ∃ p, prio t rising = some p ∧ rising.getLsbD (t.get p).inputBit = true ∧
      ∀ q < p, rising.getLsbD (t.get q).inputBit = false)

/-- The rising bits are those that went from pressed to released, and restricting them to the changed bits changes nothing (R188). -/
def Obligations.RisingEdgesArePressedThenReleased : Prop :=
  ∀ last smp : Byte,
    (∀ k : BitPos, (risingBits last smp).getLsbD k = true ↔ last.getLsbD k = false ∧ smp.getLsbD k = true) ∧
    risingBits last smp &&& changedBits last smp = risingBits last smp ∧
    risingBits last smp = changedBits last smp &&& smp

/-- The reflection function: 0xFF for NONE, one cold bit at the port's `outputBit` otherwise, injective on the nine values, and its values
under `T0` (R170). -/
def Obligations.LedByteShowsActivePort : Prop :=
  ∀ t : PortTable, t.wf →
    ledByte t none = 0xFF#8 ∧
    (∀ (p : Port) (k : BitPos), (ledByte t (some p)).getLsbD k = false ↔ k = (t.get p).outputBit) ∧
    (∀ p : Port, ledByte t (some p) = 0xFF#8 ^^^ (1#8 <<< (t.get p).outputBit.val)) ∧
    (∀ a b : Option Port, ledByte t a = ledByte t b → a = b) ∧
    ports.map (fun p => ledByte PortTable.t0 (some p)) = [0x7F#8, 0xBF#8, 0xDF#8, 0xEF#8, 0xF7#8, 0xFB#8, 0xFD#8, 0xFE#8]

/-! ### Whole operations -/

/-- A SELECT of another port runs fourteen steps and ends at IDLE with that port connected, its LED alone lit, `OK` answered, and every
guarantee of the machine (R150, R152, R171, R174). -/
def Obligations.SelectConnectsPort : Prop :=
  ∀ (s : State) (p : Port) (rest : List Word16),
    s.inv → s.S.halted = false → s.aboutToAccept (.select p.val) rest → s.S.activePort ≠ some p → s.busAnswer = .ok →
    ∃ t, Host.Core.run Sys2Proof.core 14 s = .next t ∧ t.S.phase = .idle ∧ t.S.halted = false ∧
      t.S.activePort = some p ∧ t.S.routeInv s.par.table ∧ t.S.ledInv s.par.table ∧
      t.S.lastSample = s.S.lastSample ∧ t.S.intLatch = s.S.intLatch ∧ t.S.faultSeen = s.S.faultSeen ∧
      (t.S.mux (s.par.table.get p).muxSide.other).sel = (s.S.mux (s.par.table.get p).muxSide.other).sel ∧
      t.obs.responses = ⟨.caller, .ok, none⟩ :: s.obs.responses ∧ t.env.requests = rest ∧ t.inv

/-- DISCONNECT, and a SELECT of any index outside 0..7, run seven steps with the same end: nothing connected, all LEDs off, no side,
selection or address touched (R82, R150, R151, R154). -/
def Obligations.DisconnectEnergisesNothing : Prop :=
  ∀ (s : State) (i : Instr) (rest : List Word16),
    s.S.halted = false → s.aboutToAccept i rest → s.busAnswer = .ok →
    i = .disconnect ∨ (∃ idx, i = .select idx ∧ (idx < 0 ∨ 7 < idx)) →
    ∃ t, Host.Core.run Sys2Proof.core 7 s = .next t ∧
      t.S = { s.S with activePort := none, tw := ⟨false, s.S.tw.side⟩, mux0 := ⟨false, s.S.mux0.sel⟩,
                       mux1 := ⟨false, s.S.mux1.sel⟩, dec := ⟨false, s.S.dec.addr⟩, led := 0xFF#8, ctx := .cmd } ∧
      t.obs.responses = ⟨.caller, .ok, none⟩ :: s.obs.responses ∧ t.env.requests = rest

/-- SELECT of the active port issues no route device micro-operation: two steps, one LED write of the byte already shown, and no
field of the record changes but the bookkeeping `ctx` (R157). -/
def Obligations.SelectActivePortIsNoOp : Prop :=
  ∀ (s : State) (p : Port) (rest : List Word16),
    s.S.halted = false → s.aboutToAccept (.select p.val) rest → s.S.activePort = some p → s.busAnswer = .ok →
    s.S.ledInv s.par.table →
    ∃ t, Host.Core.run Sys2Proof.core 2 s = .next t ∧ t.S = { s.S with ctx := .cmd } ∧
      t.obs.trace = .done .l1 (encode (.expWrite s.S.led)) :: s.obs.trace ∧
      t.obs.responses = ⟨.caller, .ok, none⟩ :: s.obs.responses

/-- DISCONNECT of a core with nothing connected and all LEDs off ends in the same record but for the bookkeeping `ctx`, and applied twice in a
row, from any state, the second changes nothing (R158). -/
def Obligations.DisconnectIsIdempotent : Prop :=
  ∀ (s : State) (rest : List Word16), s.S.halted = false → s.busAnswer = .ok →
    (s.aboutToAccept .disconnect rest → s.S.activePort = none → s.S.routeInv s.par.table → s.S.led = 0xFF#8 →
      ∃ t, Host.Core.run Sys2Proof.core 7 s = .next t ∧ t.S = { s.S with ctx := .cmd }) ∧
    (s.aboutToAccept .disconnect (encode .disconnect :: rest) → s.useBus.busAnswer = .ok →
      ∃ t u, Host.Core.run Sys2Proof.core 7 s = .next t ∧ Host.Core.run Sys2Proof.core 14 s = .next u ∧ u.S = t.S)

/-- The handler on a release: seventeen steps to IDLE with the least released port connected, its LED lit and the whole sample absorbed, so
that a release that lost the contest is not remembered (R185, R189, R190, R192). -/
def Obligations.ReleaseSelectsLeastPort : Prop :=
  ∀ (s : State) (p : Port) (b : Byte) (rest : List Word16),
    s.inv → s.S.halted = false → s.aboutToAccept .irq rest → s.readByte = some b → s.useRead.busAnswer = .ok →
    (~~~s.S.lastSample &&& b).getLsbD (s.par.table.get p).inputBit = true →
    (∀ q < p, (~~~s.S.lastSample &&& b).getLsbD (s.par.table.get q).inputBit = false) →
    s.S.activePort ≠ some p →
    ∃ t, Host.Core.run Sys2Proof.core 17 s = .next t ∧ t.S.phase = .idle ∧ t.S.activePort = some p ∧
      t.S.routeInv s.par.table ∧ t.S.ledInv s.par.table ∧ t.S.lastSample = b ∧ t.S.intLatch = false ∧
      t.S.faultSeen = s.S.faultSeen ∧ t.S.halted = false ∧ ~~~t.S.lastSample &&& b = 0#8

/-- An interrupt whose read finds no change is discarded in three steps: only the latch and the handler's own bookkeeping change
(R187); a press alone is absorbed in four steps, touching no device and no LED (R193). -/
def Obligations.InterruptsThatSelectNothing : Prop :=
  ∀ (s : State) (b : Byte) (rest : List Word16),
    s.S.halted = false → s.aboutToAccept .irq rest → s.par.table.wf → s.readByte = some b →
    (s.S.lastSample ^^^ b = 0#8 →
      ∃ t, Host.Core.run Sys2Proof.core 3 s = .next t ∧
        t.S = { s.S with intLatch := false, smp := b, ctx := .irq } ∧
        t.obs.trace = [TraceEntry.done .i2 0x4100#16, .done .i1 0x5000#16] ++ s.obs.trace) ∧
    (s.S.lastSample ^^^ b ≠ 0#8 → ~~~s.S.lastSample &&& b = 0#8 →
      ∃ t, Host.Core.run Sys2Proof.core 4 s = .next t ∧
        t.S = { s.S with lastSample := b, intLatch := false, smp := b, ctx := .irq } ∧
        t.obs.trace = [TraceEntry.done .i3 (encode (.setSample b)), .done .i2 0x4100#16, .done .i1 0x5000#16] ++ s.obs.trace)

/-- RESET from any state at IDLE, the power-on state among them, whose two bus transactions succeed: thirteen steps to the fields of
R43, nothing selected whatever the sample is (R43, R197, R203), and `OK` to its caller. Of the requests that waited behind it none is
left but another RESET, so no interrupt is pending (R205), and no command: each was sent before the `OK` and is refused as a halted
core refuses it (R207, R253). That they are refused when the RESET is accepted, in their order, is the model's reading
(notes/assumptions 23). `u` is the state after the acceptance. -/
def Obligations.ResetReachesFreshState : Prop :=
  ∀ (s u : State) (b : Byte) (rest : List Word16),
    s.aboutToAccept .reset rest → step s = .next u → u.busAnswer = .ok → (u.useBus.useFree 1).readByte = some b →
    ∃ t l, Host.Core.run Sys2Proof.core 13 s = .next t ∧
      t.S = { activePort := none, lastSample := b, tw := ⟨false, s.par.resetSel.tw⟩, mux0 := ⟨false, s.par.resetSel.mux0⟩
              mux1 := ⟨false, s.par.resetSel.mux1⟩, dec := ⟨false, s.par.resetSel.dec⟩, led := 0xFF#8, intLatch := false
              phase := .idle, tgt := t.S.tgt, smp := t.S.smp, ctx := t.S.ctx, faultSeen := false, halted := false } ∧
      t.S.routeInv s.par.table ∧ t.S.ledInv s.par.table ∧ t.par = s.par ∧
      t.env.requests = rest.filter (· = 0x0500#16) ∧ 0x0400#16 ∉ t.env.requests ∧
      answersRefusing rest l ∧ t.obs.responses = ⟨.caller, .ok, none⟩ :: (l ++ s.obs.responses)

/-- A RESET that meets a bus failure is abandoned and the core stays halted: at Z1 with `E_BUS_INIT`, at Z11 with `E_BUS_READ`, and after
Z11 the devices, `activePort` and `led` are as RESET had made them (R204). -/
def Obligations.FailedResetStaysHalted : Prop :=
  ∀ s : State, s.inv → s.coreMoves →
    (s.S.phase = .z1 → s.busAnswer = .busfail →
      ∃ t, step s = .next t ∧ t.S.halted = true ∧ t.S.faultSeen = true ∧ t.S.phase = .idle ∧
        t.obs.responses = ⟨.caller, .eBusInit, none⟩ :: s.obs.responses) ∧
    (s.S.phase = .z11 → s.readByte = none →
      ∃ t, step s = .next t ∧ t.S.halted = true ∧ t.S.faultSeen = true ∧ t.S.phase = .idle ∧ t.S.allOff ∧
        t.S.activePort = none ∧ t.S.led = 0xFF#8 ∧
        t.obs.responses = ⟨.caller, .eBusRead, none⟩ :: s.obs.responses)

/-- HALT runs seven steps, leaves every route device disabled and the core halted whatever the bus does, and answers `OK`; the LED byte is
0xFF if the write succeeded, and a failure sets `faultSeen` (R206). -/
def Obligations.HaltDisconnectsWhateverTheBusDoes : Prop :=
  ∀ (s : State) (rest : List Word16), s.S.halted = false → s.aboutToAccept .halt rest →
    encode .halt = 0x0600#16 ∧ (∃ u, step s = .next u ∧ u.S = { s.S with ctx := .halt, phase := .d1 }) ∧
    ∃ t, Host.Core.run Sys2Proof.core 7 s = .next t ∧ t.S.phase = .idle ∧ t.S.halted = true ∧ t.S.allOff ∧
      t.S.activePort = none ∧ t.obs.responses = ⟨.caller, .ok, none⟩ :: s.obs.responses ∧
      (s.busAnswer = .ok → t.S.led = 0xFF#8 ∧ t.S.faultSeen = s.S.faultSeen) ∧
      (s.busAnswer = .busfail → t.S.faultSeen = true)

/-- Bus failures in the handler: a failed read selects nothing and keeps `lastSample`, `activePort`, the devices and the LED byte; a failed LED
write keeps the route and `activePort` and skips step 6, so `lastSample` keeps the old sample (R194). -/
def Obligations.HandlerBusFailures : Prop :=
  ∀ s : State, s.coreMoves →
    (s.S.phase = .i2 → s.readByte = none →
      ∃ t, step s = .next t ∧ t.S = { s.S with intLatch := t.S.intLatch, faultSeen := true, phase := .idle }) ∧
    (s.S.phase = .l1 → s.S.ctx = .irq → s.busAnswer = .busfail →
      ∃ t, step s = .next t ∧ t.S = { s.S with led := t.S.led, faultSeen := true, phase := .idle })

/-! ### What holds of the whole machine -/

/-- The state after reset satisfies the invariant. Its table, its `lastSample` and its select lines are the model's choice (notes/assumptions
1, 2 and 3). -/
def Obligations.ResetStateSatisfiesInv : Prop := State.reset.inv

/-- Every step keeps the invariant, whatever the environment does and whatever the bus answers. That while RESET runs no request waits but
another RESET, so that no interrupt and no command outlasts it (R205, R253), is a part of it, and rests on notes/assumptions 11 and 23. -/
def Obligations.StepKeepsInv : Prop :=
  ∀ s t : State, s.inv → step s = .next t → t.inv

/-- At every IDLE state of a core that is not halted `RouteInv` holds, bus failures included, and with no failure since reset `LedInv` too
(R22, R160 a, R174). -/
def Obligations.IdleStatesAreConsistent : Prop :=
  ∀ s t : State, s.inv → step s = .next t → t.S.phase = .idle → t.S.halted = false →
    t.S.routeInv t.par.table ∧ (t.S.faultSeen = false → t.S.ledInv t.par.table)

/-- From the completion of step 1 until TW_ENABLE the data path of every port is open, and until DEC_ENABLE no power line is asserted (R160 c
and d). -/
def Obligations.NothingConnectedWhileProgramming : Prop :=
  ∀ s : State, s.inv →
    (s.S.phase ∈ [Phase.c5, .c6, .c7, .c8, .c9, .c10, .c11] → ∀ p, ¬ s.S.dataPath s.par.table p) ∧
    (s.S.phase ∈ [Phase.c5, .c6, .c7, .c8, .c9] → ∀ k, ¬ s.S.pwr k)

/-- During source step 1 enables only fall: whatever port has power, a data path or a connection after one of those micro-operations had
it before (R160 b). -/
def Obligations.StepOneOnlyDisconnects : Prop :=
  ∀ s t : State, s.coreMoves → s.S.phase ∈ [Phase.c1, .c2, .c3, .c4, .d1, .d2, .d3, .d4] → step s = .next t →
    (∀ k, t.S.pwr k → s.S.pwr k) ∧
    ∀ r, (t.S.dataPath s.par.table r → s.S.dataPath s.par.table r) ∧
      (t.S.connected s.par.table r → s.S.connected s.par.table r)

/-- In every state at most one power line is asserted, and with `RouteDistinct(PT)` at most one port is connected (R160 e and f). -/
def Obligations.AtMostOnePortConnected : Prop :=
  ∀ s : State,
    (∀ k₁ k₂, s.S.pwr k₁ → s.S.pwr k₂ → k₁ = k₂) ∧
    (s.par.table.routeDistinct → ∀ p q, s.S.connected s.par.table p → s.S.connected s.par.table q → p = q)

/-- Glitch-free: no step hands an asserted power line over to another one, so between two different powered ports there is always a state
with no power line asserted (R160 d and e). The states a power failure or a failed RESET leaves unspecified, halted at IDLE, are
left out. -/
def Obligations.PowerIsNeverHandedOver : Prop :=
  ∀ (s t : State) (k₁ k₂ : BitVec 3), s.inv → step s = .next t → t.S.halted = false ∨ t.S.phase ≠ .idle →
    s.S.pwr k₁ → t.S.pwr k₂ → k₁ = k₂

/-- The sequencer's own sequences never write a side, a selection or an address while its device is enabled: no step of a machine in
which only the sequencer issues micro-operations marks the trace (R160 g, R268). -/
def Obligations.SequencerBreaksNoPrecondition : Prop :=
  ∀ s t : State, s.inv → step s = .next t → t.obs.hazard = s.obs.hazard

/-- Only the broken preconditions of R269 mark a trace, whoever issues the operation. -/
def Obligations.OnlyBrokenPreconditionsAreMarked : Prop :=
  ∀ (i : Instr) (s t : State), exec i s = .next t → t.obs.hazard = true → s.obs.hazard = false →
    (∃ d, i = .twRoute d ∧ s.S.tw.en = true) ∨ (∃ m n, i = .muxSelect m n ∧ (s.S.mux m).en = true) ∨
    (∃ a, i = .decAddr a ∧ s.S.dec.en = true)

/-- Which operations write which field of the record, one clause for each row of R40: `activePort` only SET_ACTIVE, `lastSample` only
SET_SAMPLE, each enable only its device's two switches, each side, selection and address only its own setter, `led` only EXP_WRITE
and EXP_INIT, `intLatch` (the environment's moves apart) only EXP_READ and EXP_INIT; the label moves only at an acceptance, at a
micro-operation the sequencer issued and at a bus failure; `tgt` is latched by SELECT and by the handler's read, `smp` by EXP_READ,
`ctx` at an acceptance, and all three become unspecified at the end of RESET (R43); `faultSeen` is set only by a bus failure and
cleared only by RESET; `halted` is written only by RESET at both its ends and at the end of HALT. A RESET that fails at Z1 or Z11
leaves fields unspecified and is left out (R204). -/
def Obligations.FieldsHaveOneWriter : Prop :=
  ∀ (i : Instr) (s t : State), exec i s = .next t →
    ¬ (s.S.phase = .z1 ∧ i = .expInit ∧ s.busAnswer = .busfail) →
    ¬ (s.S.phase = .z11 ∧ i = .expRead ∧ s.readByte = none) →
    ((∀ v, i ≠ .setActive v) → t.S.activePort = s.S.activePort) ∧
    ((∀ b, i ≠ .setSample b) → t.S.lastSample = s.S.lastSample) ∧
    (i ≠ .twDisable → i ≠ .twEnable → t.S.tw.en = s.S.tw.en) ∧
    ((∀ d, i ≠ .twRoute d) → t.S.tw.side = s.S.tw.side) ∧
    (∀ m : Side, i ≠ .muxDisable m → i ≠ .muxEnable m → (t.S.mux m).en = (s.S.mux m).en) ∧
    (∀ m : Side, (∀ n, i ≠ .muxSelect m n) → (t.S.mux m).sel = (s.S.mux m).sel) ∧
    (i ≠ .decDisable → i ≠ .decEnable → t.S.dec.en = s.S.dec.en) ∧
    ((∀ a, i ≠ .decAddr a) → t.S.dec.addr = s.S.dec.addr) ∧
    (i ≠ .expInit → (∀ b, i ≠ .expWrite b) → t.S.led = s.S.led) ∧
    (i ≠ .expInit → i ≠ .expRead → t.S.intLatch = s.S.intLatch) ∧
    (t.S.phase ≠ s.S.phase → i.isPublic = true ∨ s.nextMicro = some i ∨ s.busFailsFor i) ∧
    (t.S.tgt ≠ s.S.tgt → (∃ idx, i = .select idx) ∨ (s.S.phase = .i2 ∧ i = .expRead) ∨ s.endsReset i) ∧
    (t.S.smp ≠ s.S.smp → i = .expRead ∨ s.endsReset i) ∧
    (t.S.ctx ≠ s.S.ctx → i = .irq ∨ i = .halt ∨ i = .disconnect ∨ (∃ idx, i = .select idx) ∨ s.endsReset i) ∧
    (s.S.faultSeen = false → t.S.faultSeen = true → s.busFailsFor i) ∧
    (s.S.faultSeen = true → t.S.faultSeen = false → i = .reset) ∧
    (t.S.halted ≠ s.S.halted →
      i = .reset ∨ s.endsReset i ∨ (s.S.phase = .l1 ∧ s.S.ctx = .halt ∧ ∃ b, i = .expWrite b))

/-- The parameters, the Port Table among them, are read-only: no step changes them (R33, R62). -/
def Obligations.ParametersAreReadOnly : Prop :=
  ∀ s t : State, step s = .next t → t.par = s.par

/-- `faultSeen` is cleared only by RESET: a step of the core that clears it is the acceptance of a RESET, and no failure is forgotten
otherwise (R31, R216). -/
def Obligations.FaultSeenIsStickyUntilReset : Prop :=
  ∀ s t : State, s.coreMoves → step s = .next t → s.S.faultSeen = true → t.S.faultSeen = false →
    s.S.phase = .idle ∧ t.S.phase = .z1 ∧ ∃ w rest, s.env.requests = w :: rest ∧ decode w = .ok .reset

/-- The panel cannot disconnect: no step of a running handler takes `activePort` from a port to NONE (R199, R235). -/
def Obligations.HandlerNeverDisconnects : Prop :=
  ∀ s t : State, s.inv → s.coreMoves → s.S.phase ≠ .idle → s.S.phase.isReset = false → s.S.ctx = .irq →
    step s = .next t → s.S.activePort ≠ none → t.S.activePort ≠ none

/-- Run to completion: from every label the core is back at IDLE after at most sixteen steps of its own, whatever the bus answers (R67,
R213, R214). A transaction that never completes is not in the model (R70, notes/assumptions 16). -/
def Obligations.EveryOperationEnds : Prop :=
  ∀ s : State, s.coreMoves → s.par.table.wf →
    ∃ (k : Nat) (t : State), k ≤ 16 ∧ Host.Core.run Sys2Proof.core k s = .next t ∧ t.S.phase = .idle
end

