-- ==== Sys2Proof/Laws/Decode.lean ====
section
/-! SUPPORT. The small lemmas of the word format (R90, R92). -/

namespace Sys2Proof

theorem opOf_append_argOf (w : Word16) : opOf w ++ argOf w = w := by
  unfold opOf argOf
  rw [BitVec.extractLsb'_append_extractLsb'_eq_extractLsb'] <;> simp

theorem opOf_append (op arg : Byte) : opOf (op ++ arg) = op := by
  unfold opOf; exact BitVec.extractLsb'_append_eq_left

theorem argOf_append (op arg : Byte) : argOf (op ++ arg) = arg := by
  unfold argOf; exact BitVec.extractLsb'_append_eq_right

@[simp] theorem opOf_encode (i : Instr) : opOf (encode i) = i.opcode := opOf_append _ _

@[simp] theorem argOf_encode (i : Instr) : argOf (encode i) = i.argument := argOf_append _ _

theorem decode_encode_fields (i : Instr) : decode (encode i) = decodeFields i.opcode i.argument := by
  unfold decode; rw [opOf_encode, argOf_encode]

/-- A guarded argument is accepted exactly when its reserved bits are zero (R92, R94). -/
theorem guardArg_ok {arg reserved : Byte} {i j : Instr} (h : guardArg arg reserved i = .ok j) :
    arg &&& reserved = 0#8 ∧ i = j := by
  unfold guardArg at h
  split at h
  · exact ⟨by assumption, by injection h⟩
  · cases h

/-- Only the word 0x0400 is IRQ's (R95). -/
theorem decode_irq {w : Word16} (h : decode w = .ok .irq) : w = 0x0400#16 := by
  unfold decode decodeFields at h
  split at h
  case h_4 hop =>
    have ha : argOf w &&& BitVec.allOnes 8 = 0#8 := (guardArg_ok h).1
    rw [← opOf_append_argOf w, show opOf w = 0x04#8 from BitVec.eq_of_toNat_eq hop,
      show argOf w = 0#8 by rwa [BitVec.and_allOnes] at ha]
    rfl
  case h_21 =>
    unfold decodeActive at h
    split at h
    · split at h <;> cases h
    · cases h
  all_goals first
    | cases h
    | cases (guardArg_ok h).2

/-- The code of `activePort` names it again (R83). -/
theorem activeOfCode_activeCode (v : Option Port) : activeOfCode (activeCode v) = some v := by
  rcases v with _ | p
  · decide
  · revert p; decide

/-- `Side` and its bit (R84). -/
@[simp] theorem Side.ofBit_bit (d : Side) : Side.ofBit d.bit = d := by cases d <;> rfl

@[simp] theorem Side.bit_ofBit (b : Bool) : (Side.ofBit b).bit = b := by cases b <;> rfl

end Sys2Proof
end

