-- ==== Sys2Proof/Laws/State.lean ====
section
/-! SUPPORT. One lemma per field per update of the state, true by `rfl`, so that no later proof unfolds a record update. -/

namespace Sys2Proof.Machine.State

variable (s : State)

/-! #### `setTwEn` -/

@[simp] theorem setTwEn_activePort (b : Bool) : (s.setTwEn b).S.activePort = s.S.activePort := rfl
@[simp] theorem setTwEn_lastSample (b : Bool) : (s.setTwEn b).S.lastSample = s.S.lastSample := rfl
@[simp] theorem setTwEn_tw (b : Bool) : (s.setTwEn b).S.tw = ⟨b, s.S.tw.side⟩ := rfl
@[simp] theorem setTwEn_mux0 (b : Bool) : (s.setTwEn b).S.mux0 = s.S.mux0 := rfl
@[simp] theorem setTwEn_mux1 (b : Bool) : (s.setTwEn b).S.mux1 = s.S.mux1 := rfl
@[simp] theorem setTwEn_dec (b : Bool) : (s.setTwEn b).S.dec = s.S.dec := rfl
@[simp] theorem setTwEn_led (b : Bool) : (s.setTwEn b).S.led = s.S.led := rfl
@[simp] theorem setTwEn_intLatch (b : Bool) : (s.setTwEn b).S.intLatch = s.S.intLatch := rfl
@[simp] theorem setTwEn_phase (b : Bool) : (s.setTwEn b).S.phase = s.S.phase := rfl
@[simp] theorem setTwEn_tgt (b : Bool) : (s.setTwEn b).S.tgt = s.S.tgt := rfl
@[simp] theorem setTwEn_smp (b : Bool) : (s.setTwEn b).S.smp = s.S.smp := rfl
@[simp] theorem setTwEn_ctx (b : Bool) : (s.setTwEn b).S.ctx = s.S.ctx := rfl
@[simp] theorem setTwEn_faultSeen (b : Bool) : (s.setTwEn b).S.faultSeen = s.S.faultSeen := rfl
@[simp] theorem setTwEn_halted (b : Bool) : (s.setTwEn b).S.halted = s.S.halted := rfl
@[simp] theorem setTwEn_par (b : Bool) : (s.setTwEn b).par = s.par := rfl
@[simp] theorem setTwEn_env (b : Bool) : (s.setTwEn b).env = s.env := rfl
@[simp] theorem setTwEn_obs (b : Bool) : (s.setTwEn b).obs = s.obs := rfl

/-! #### `setTwSide` -/

@[simp] theorem setTwSide_activePort (d : Side) : (s.setTwSide d).S.activePort = s.S.activePort := rfl
@[simp] theorem setTwSide_lastSample (d : Side) : (s.setTwSide d).S.lastSample = s.S.lastSample := rfl
@[simp] theorem setTwSide_tw (d : Side) : (s.setTwSide d).S.tw = ⟨s.S.tw.en, d⟩ := rfl
@[simp] theorem setTwSide_mux0 (d : Side) : (s.setTwSide d).S.mux0 = s.S.mux0 := rfl
@[simp] theorem setTwSide_mux1 (d : Side) : (s.setTwSide d).S.mux1 = s.S.mux1 := rfl
@[simp] theorem setTwSide_dec (d : Side) : (s.setTwSide d).S.dec = s.S.dec := rfl
@[simp] theorem setTwSide_led (d : Side) : (s.setTwSide d).S.led = s.S.led := rfl
@[simp] theorem setTwSide_intLatch (d : Side) : (s.setTwSide d).S.intLatch = s.S.intLatch := rfl
@[simp] theorem setTwSide_phase (d : Side) : (s.setTwSide d).S.phase = s.S.phase := rfl
@[simp] theorem setTwSide_tgt (d : Side) : (s.setTwSide d).S.tgt = s.S.tgt := rfl
@[simp] theorem setTwSide_smp (d : Side) : (s.setTwSide d).S.smp = s.S.smp := rfl
@[simp] theorem setTwSide_ctx (d : Side) : (s.setTwSide d).S.ctx = s.S.ctx := rfl
@[simp] theorem setTwSide_faultSeen (d : Side) : (s.setTwSide d).S.faultSeen = s.S.faultSeen := rfl
@[simp] theorem setTwSide_halted (d : Side) : (s.setTwSide d).S.halted = s.S.halted := rfl
@[simp] theorem setTwSide_par (d : Side) : (s.setTwSide d).par = s.par := rfl
@[simp] theorem setTwSide_env (d : Side) : (s.setTwSide d).env = s.env := rfl
@[simp] theorem setTwSide_obs (d : Side) : (s.setTwSide d).obs = s.obs := rfl

/-! #### `setDecEn` -/

@[simp] theorem setDecEn_activePort (b : Bool) : (s.setDecEn b).S.activePort = s.S.activePort := rfl
@[simp] theorem setDecEn_lastSample (b : Bool) : (s.setDecEn b).S.lastSample = s.S.lastSample := rfl
@[simp] theorem setDecEn_tw (b : Bool) : (s.setDecEn b).S.tw = s.S.tw := rfl
@[simp] theorem setDecEn_mux0 (b : Bool) : (s.setDecEn b).S.mux0 = s.S.mux0 := rfl
@[simp] theorem setDecEn_mux1 (b : Bool) : (s.setDecEn b).S.mux1 = s.S.mux1 := rfl
@[simp] theorem setDecEn_dec (b : Bool) : (s.setDecEn b).S.dec = ⟨b, s.S.dec.addr⟩ := rfl
@[simp] theorem setDecEn_led (b : Bool) : (s.setDecEn b).S.led = s.S.led := rfl
@[simp] theorem setDecEn_intLatch (b : Bool) : (s.setDecEn b).S.intLatch = s.S.intLatch := rfl
@[simp] theorem setDecEn_phase (b : Bool) : (s.setDecEn b).S.phase = s.S.phase := rfl
@[simp] theorem setDecEn_tgt (b : Bool) : (s.setDecEn b).S.tgt = s.S.tgt := rfl
@[simp] theorem setDecEn_smp (b : Bool) : (s.setDecEn b).S.smp = s.S.smp := rfl
@[simp] theorem setDecEn_ctx (b : Bool) : (s.setDecEn b).S.ctx = s.S.ctx := rfl
@[simp] theorem setDecEn_faultSeen (b : Bool) : (s.setDecEn b).S.faultSeen = s.S.faultSeen := rfl
@[simp] theorem setDecEn_halted (b : Bool) : (s.setDecEn b).S.halted = s.S.halted := rfl
@[simp] theorem setDecEn_par (b : Bool) : (s.setDecEn b).par = s.par := rfl
@[simp] theorem setDecEn_env (b : Bool) : (s.setDecEn b).env = s.env := rfl
@[simp] theorem setDecEn_obs (b : Bool) : (s.setDecEn b).obs = s.obs := rfl

/-! #### `setDecAddr` -/

@[simp] theorem setDecAddr_activePort (a : BitVec 3) : (s.setDecAddr a).S.activePort = s.S.activePort := rfl
@[simp] theorem setDecAddr_lastSample (a : BitVec 3) : (s.setDecAddr a).S.lastSample = s.S.lastSample := rfl
@[simp] theorem setDecAddr_tw (a : BitVec 3) : (s.setDecAddr a).S.tw = s.S.tw := rfl
@[simp] theorem setDecAddr_mux0 (a : BitVec 3) : (s.setDecAddr a).S.mux0 = s.S.mux0 := rfl
@[simp] theorem setDecAddr_mux1 (a : BitVec 3) : (s.setDecAddr a).S.mux1 = s.S.mux1 := rfl
@[simp] theorem setDecAddr_dec (a : BitVec 3) : (s.setDecAddr a).S.dec = ⟨s.S.dec.en, a⟩ := rfl
@[simp] theorem setDecAddr_led (a : BitVec 3) : (s.setDecAddr a).S.led = s.S.led := rfl
@[simp] theorem setDecAddr_intLatch (a : BitVec 3) : (s.setDecAddr a).S.intLatch = s.S.intLatch := rfl
@[simp] theorem setDecAddr_phase (a : BitVec 3) : (s.setDecAddr a).S.phase = s.S.phase := rfl
@[simp] theorem setDecAddr_tgt (a : BitVec 3) : (s.setDecAddr a).S.tgt = s.S.tgt := rfl
@[simp] theorem setDecAddr_smp (a : BitVec 3) : (s.setDecAddr a).S.smp = s.S.smp := rfl
@[simp] theorem setDecAddr_ctx (a : BitVec 3) : (s.setDecAddr a).S.ctx = s.S.ctx := rfl
@[simp] theorem setDecAddr_faultSeen (a : BitVec 3) : (s.setDecAddr a).S.faultSeen = s.S.faultSeen := rfl
@[simp] theorem setDecAddr_halted (a : BitVec 3) : (s.setDecAddr a).S.halted = s.S.halted := rfl
@[simp] theorem setDecAddr_par (a : BitVec 3) : (s.setDecAddr a).par = s.par := rfl
@[simp] theorem setDecAddr_env (a : BitVec 3) : (s.setDecAddr a).env = s.env := rfl
@[simp] theorem setDecAddr_obs (a : BitVec 3) : (s.setDecAddr a).obs = s.obs := rfl

/-! #### `setActive` -/

@[simp] theorem setActive_activePort (v : Option Port) : (s.setActive v).S.activePort = v := rfl
@[simp] theorem setActive_lastSample (v : Option Port) : (s.setActive v).S.lastSample = s.S.lastSample := rfl
@[simp] theorem setActive_tw (v : Option Port) : (s.setActive v).S.tw = s.S.tw := rfl
@[simp] theorem setActive_mux0 (v : Option Port) : (s.setActive v).S.mux0 = s.S.mux0 := rfl
@[simp] theorem setActive_mux1 (v : Option Port) : (s.setActive v).S.mux1 = s.S.mux1 := rfl
@[simp] theorem setActive_dec (v : Option Port) : (s.setActive v).S.dec = s.S.dec := rfl
@[simp] theorem setActive_led (v : Option Port) : (s.setActive v).S.led = s.S.led := rfl
@[simp] theorem setActive_intLatch (v : Option Port) : (s.setActive v).S.intLatch = s.S.intLatch := rfl
@[simp] theorem setActive_phase (v : Option Port) : (s.setActive v).S.phase = s.S.phase := rfl
@[simp] theorem setActive_tgt (v : Option Port) : (s.setActive v).S.tgt = s.S.tgt := rfl
@[simp] theorem setActive_smp (v : Option Port) : (s.setActive v).S.smp = s.S.smp := rfl
@[simp] theorem setActive_ctx (v : Option Port) : (s.setActive v).S.ctx = s.S.ctx := rfl
@[simp] theorem setActive_faultSeen (v : Option Port) : (s.setActive v).S.faultSeen = s.S.faultSeen := rfl
@[simp] theorem setActive_halted (v : Option Port) : (s.setActive v).S.halted = s.S.halted := rfl
@[simp] theorem setActive_par (v : Option Port) : (s.setActive v).par = s.par := rfl
@[simp] theorem setActive_env (v : Option Port) : (s.setActive v).env = s.env := rfl
@[simp] theorem setActive_obs (v : Option Port) : (s.setActive v).obs = s.obs := rfl

/-! #### `setSample` -/

@[simp] theorem setSample_activePort (b : Byte) : (s.setSample b).S.activePort = s.S.activePort := rfl
@[simp] theorem setSample_lastSample (b : Byte) : (s.setSample b).S.lastSample = b := rfl
@[simp] theorem setSample_tw (b : Byte) : (s.setSample b).S.tw = s.S.tw := rfl
@[simp] theorem setSample_mux0 (b : Byte) : (s.setSample b).S.mux0 = s.S.mux0 := rfl
@[simp] theorem setSample_mux1 (b : Byte) : (s.setSample b).S.mux1 = s.S.mux1 := rfl
@[simp] theorem setSample_dec (b : Byte) : (s.setSample b).S.dec = s.S.dec := rfl
@[simp] theorem setSample_led (b : Byte) : (s.setSample b).S.led = s.S.led := rfl
@[simp] theorem setSample_intLatch (b : Byte) : (s.setSample b).S.intLatch = s.S.intLatch := rfl
@[simp] theorem setSample_phase (b : Byte) : (s.setSample b).S.phase = s.S.phase := rfl
@[simp] theorem setSample_tgt (b : Byte) : (s.setSample b).S.tgt = s.S.tgt := rfl
@[simp] theorem setSample_smp (b : Byte) : (s.setSample b).S.smp = s.S.smp := rfl
@[simp] theorem setSample_ctx (b : Byte) : (s.setSample b).S.ctx = s.S.ctx := rfl
@[simp] theorem setSample_faultSeen (b : Byte) : (s.setSample b).S.faultSeen = s.S.faultSeen := rfl
@[simp] theorem setSample_halted (b : Byte) : (s.setSample b).S.halted = s.S.halted := rfl
@[simp] theorem setSample_par (b : Byte) : (s.setSample b).par = s.par := rfl
@[simp] theorem setSample_env (b : Byte) : (s.setSample b).env = s.env := rfl
@[simp] theorem setSample_obs (b : Byte) : (s.setSample b).obs = s.obs := rfl

/-! #### `setLed` -/

@[simp] theorem setLed_activePort (b : Byte) : (s.setLed b).S.activePort = s.S.activePort := rfl
@[simp] theorem setLed_lastSample (b : Byte) : (s.setLed b).S.lastSample = s.S.lastSample := rfl
@[simp] theorem setLed_tw (b : Byte) : (s.setLed b).S.tw = s.S.tw := rfl
@[simp] theorem setLed_mux0 (b : Byte) : (s.setLed b).S.mux0 = s.S.mux0 := rfl
@[simp] theorem setLed_mux1 (b : Byte) : (s.setLed b).S.mux1 = s.S.mux1 := rfl
@[simp] theorem setLed_dec (b : Byte) : (s.setLed b).S.dec = s.S.dec := rfl
@[simp] theorem setLed_led (b : Byte) : (s.setLed b).S.led = b := rfl
@[simp] theorem setLed_intLatch (b : Byte) : (s.setLed b).S.intLatch = s.S.intLatch := rfl
@[simp] theorem setLed_phase (b : Byte) : (s.setLed b).S.phase = s.S.phase := rfl
@[simp] theorem setLed_tgt (b : Byte) : (s.setLed b).S.tgt = s.S.tgt := rfl
@[simp] theorem setLed_smp (b : Byte) : (s.setLed b).S.smp = s.S.smp := rfl
@[simp] theorem setLed_ctx (b : Byte) : (s.setLed b).S.ctx = s.S.ctx := rfl
@[simp] theorem setLed_faultSeen (b : Byte) : (s.setLed b).S.faultSeen = s.S.faultSeen := rfl
@[simp] theorem setLed_halted (b : Byte) : (s.setLed b).S.halted = s.S.halted := rfl
@[simp] theorem setLed_par (b : Byte) : (s.setLed b).par = s.par := rfl
@[simp] theorem setLed_env (b : Byte) : (s.setLed b).env = s.env := rfl
@[simp] theorem setLed_obs (b : Byte) : (s.setLed b).obs = s.obs := rfl

/-! #### `setLatch` -/

@[simp] theorem setLatch_activePort (b : Bool) : (s.setLatch b).S.activePort = s.S.activePort := rfl
@[simp] theorem setLatch_lastSample (b : Bool) : (s.setLatch b).S.lastSample = s.S.lastSample := rfl
@[simp] theorem setLatch_tw (b : Bool) : (s.setLatch b).S.tw = s.S.tw := rfl
@[simp] theorem setLatch_mux0 (b : Bool) : (s.setLatch b).S.mux0 = s.S.mux0 := rfl
@[simp] theorem setLatch_mux1 (b : Bool) : (s.setLatch b).S.mux1 = s.S.mux1 := rfl
@[simp] theorem setLatch_dec (b : Bool) : (s.setLatch b).S.dec = s.S.dec := rfl
@[simp] theorem setLatch_led (b : Bool) : (s.setLatch b).S.led = s.S.led := rfl
@[simp] theorem setLatch_intLatch (b : Bool) : (s.setLatch b).S.intLatch = b := rfl
@[simp] theorem setLatch_phase (b : Bool) : (s.setLatch b).S.phase = s.S.phase := rfl
@[simp] theorem setLatch_tgt (b : Bool) : (s.setLatch b).S.tgt = s.S.tgt := rfl
@[simp] theorem setLatch_smp (b : Bool) : (s.setLatch b).S.smp = s.S.smp := rfl
@[simp] theorem setLatch_ctx (b : Bool) : (s.setLatch b).S.ctx = s.S.ctx := rfl
@[simp] theorem setLatch_faultSeen (b : Bool) : (s.setLatch b).S.faultSeen = s.S.faultSeen := rfl
@[simp] theorem setLatch_halted (b : Bool) : (s.setLatch b).S.halted = s.S.halted := rfl
@[simp] theorem setLatch_par (b : Bool) : (s.setLatch b).par = s.par := rfl
@[simp] theorem setLatch_env (b : Bool) : (s.setLatch b).env = s.env := rfl
@[simp] theorem setLatch_obs (b : Bool) : (s.setLatch b).obs = s.obs := rfl

/-! #### `setSmp` -/

@[simp] theorem setSmp_activePort (b : Byte) : (s.setSmp b).S.activePort = s.S.activePort := rfl
@[simp] theorem setSmp_lastSample (b : Byte) : (s.setSmp b).S.lastSample = s.S.lastSample := rfl
@[simp] theorem setSmp_tw (b : Byte) : (s.setSmp b).S.tw = s.S.tw := rfl
@[simp] theorem setSmp_mux0 (b : Byte) : (s.setSmp b).S.mux0 = s.S.mux0 := rfl
@[simp] theorem setSmp_mux1 (b : Byte) : (s.setSmp b).S.mux1 = s.S.mux1 := rfl
@[simp] theorem setSmp_dec (b : Byte) : (s.setSmp b).S.dec = s.S.dec := rfl
@[simp] theorem setSmp_led (b : Byte) : (s.setSmp b).S.led = s.S.led := rfl
@[simp] theorem setSmp_intLatch (b : Byte) : (s.setSmp b).S.intLatch = s.S.intLatch := rfl
@[simp] theorem setSmp_phase (b : Byte) : (s.setSmp b).S.phase = s.S.phase := rfl
@[simp] theorem setSmp_tgt (b : Byte) : (s.setSmp b).S.tgt = s.S.tgt := rfl
@[simp] theorem setSmp_smp (b : Byte) : (s.setSmp b).S.smp = b := rfl
@[simp] theorem setSmp_ctx (b : Byte) : (s.setSmp b).S.ctx = s.S.ctx := rfl
@[simp] theorem setSmp_faultSeen (b : Byte) : (s.setSmp b).S.faultSeen = s.S.faultSeen := rfl
@[simp] theorem setSmp_halted (b : Byte) : (s.setSmp b).S.halted = s.S.halted := rfl
@[simp] theorem setSmp_par (b : Byte) : (s.setSmp b).par = s.par := rfl
@[simp] theorem setSmp_env (b : Byte) : (s.setSmp b).env = s.env := rfl
@[simp] theorem setSmp_obs (b : Byte) : (s.setSmp b).obs = s.obs := rfl

/-! #### `setTgt` -/

@[simp] theorem setTgt_activePort (p : Port) : (s.setTgt p).S.activePort = s.S.activePort := rfl
@[simp] theorem setTgt_lastSample (p : Port) : (s.setTgt p).S.lastSample = s.S.lastSample := rfl
@[simp] theorem setTgt_tw (p : Port) : (s.setTgt p).S.tw = s.S.tw := rfl
@[simp] theorem setTgt_mux0 (p : Port) : (s.setTgt p).S.mux0 = s.S.mux0 := rfl
@[simp] theorem setTgt_mux1 (p : Port) : (s.setTgt p).S.mux1 = s.S.mux1 := rfl
@[simp] theorem setTgt_dec (p : Port) : (s.setTgt p).S.dec = s.S.dec := rfl
@[simp] theorem setTgt_led (p : Port) : (s.setTgt p).S.led = s.S.led := rfl
@[simp] theorem setTgt_intLatch (p : Port) : (s.setTgt p).S.intLatch = s.S.intLatch := rfl
@[simp] theorem setTgt_phase (p : Port) : (s.setTgt p).S.phase = s.S.phase := rfl
@[simp] theorem setTgt_tgt (p : Port) : (s.setTgt p).S.tgt = p := rfl
@[simp] theorem setTgt_smp (p : Port) : (s.setTgt p).S.smp = s.S.smp := rfl
@[simp] theorem setTgt_ctx (p : Port) : (s.setTgt p).S.ctx = s.S.ctx := rfl
@[simp] theorem setTgt_faultSeen (p : Port) : (s.setTgt p).S.faultSeen = s.S.faultSeen := rfl
@[simp] theorem setTgt_halted (p : Port) : (s.setTgt p).S.halted = s.S.halted := rfl
@[simp] theorem setTgt_par (p : Port) : (s.setTgt p).par = s.par := rfl
@[simp] theorem setTgt_env (p : Port) : (s.setTgt p).env = s.env := rfl
@[simp] theorem setTgt_obs (p : Port) : (s.setTgt p).obs = s.obs := rfl

/-! #### `setCtx` -/

@[simp] theorem setCtx_activePort (c : Ctx) : (s.setCtx c).S.activePort = s.S.activePort := rfl
@[simp] theorem setCtx_lastSample (c : Ctx) : (s.setCtx c).S.lastSample = s.S.lastSample := rfl
@[simp] theorem setCtx_tw (c : Ctx) : (s.setCtx c).S.tw = s.S.tw := rfl
@[simp] theorem setCtx_mux0 (c : Ctx) : (s.setCtx c).S.mux0 = s.S.mux0 := rfl
@[simp] theorem setCtx_mux1 (c : Ctx) : (s.setCtx c).S.mux1 = s.S.mux1 := rfl
@[simp] theorem setCtx_dec (c : Ctx) : (s.setCtx c).S.dec = s.S.dec := rfl
@[simp] theorem setCtx_led (c : Ctx) : (s.setCtx c).S.led = s.S.led := rfl
@[simp] theorem setCtx_intLatch (c : Ctx) : (s.setCtx c).S.intLatch = s.S.intLatch := rfl
@[simp] theorem setCtx_phase (c : Ctx) : (s.setCtx c).S.phase = s.S.phase := rfl
@[simp] theorem setCtx_tgt (c : Ctx) : (s.setCtx c).S.tgt = s.S.tgt := rfl
@[simp] theorem setCtx_smp (c : Ctx) : (s.setCtx c).S.smp = s.S.smp := rfl
@[simp] theorem setCtx_ctx (c : Ctx) : (s.setCtx c).S.ctx = c := rfl
@[simp] theorem setCtx_faultSeen (c : Ctx) : (s.setCtx c).S.faultSeen = s.S.faultSeen := rfl
@[simp] theorem setCtx_halted (c : Ctx) : (s.setCtx c).S.halted = s.S.halted := rfl
@[simp] theorem setCtx_par (c : Ctx) : (s.setCtx c).par = s.par := rfl
@[simp] theorem setCtx_env (c : Ctx) : (s.setCtx c).env = s.env := rfl
@[simp] theorem setCtx_obs (c : Ctx) : (s.setCtx c).obs = s.obs := rfl

/-! #### `setPhase` -/

@[simp] theorem setPhase_activePort (l : Phase) : (s.setPhase l).S.activePort = s.S.activePort := rfl
@[simp] theorem setPhase_lastSample (l : Phase) : (s.setPhase l).S.lastSample = s.S.lastSample := rfl
@[simp] theorem setPhase_tw (l : Phase) : (s.setPhase l).S.tw = s.S.tw := rfl
@[simp] theorem setPhase_mux0 (l : Phase) : (s.setPhase l).S.mux0 = s.S.mux0 := rfl
@[simp] theorem setPhase_mux1 (l : Phase) : (s.setPhase l).S.mux1 = s.S.mux1 := rfl
@[simp] theorem setPhase_dec (l : Phase) : (s.setPhase l).S.dec = s.S.dec := rfl
@[simp] theorem setPhase_led (l : Phase) : (s.setPhase l).S.led = s.S.led := rfl
@[simp] theorem setPhase_intLatch (l : Phase) : (s.setPhase l).S.intLatch = s.S.intLatch := rfl
@[simp] theorem setPhase_phase (l : Phase) : (s.setPhase l).S.phase = l := rfl
@[simp] theorem setPhase_tgt (l : Phase) : (s.setPhase l).S.tgt = s.S.tgt := rfl
@[simp] theorem setPhase_smp (l : Phase) : (s.setPhase l).S.smp = s.S.smp := rfl
@[simp] theorem setPhase_ctx (l : Phase) : (s.setPhase l).S.ctx = s.S.ctx := rfl
@[simp] theorem setPhase_faultSeen (l : Phase) : (s.setPhase l).S.faultSeen = s.S.faultSeen := rfl
@[simp] theorem setPhase_halted (l : Phase) : (s.setPhase l).S.halted = s.S.halted := rfl
@[simp] theorem setPhase_par (l : Phase) : (s.setPhase l).par = s.par := rfl
@[simp] theorem setPhase_env (l : Phase) : (s.setPhase l).env = s.env := rfl
@[simp] theorem setPhase_obs (l : Phase) : (s.setPhase l).obs = s.obs := rfl

/-! #### `setFaultSeen` -/

@[simp] theorem setFaultSeen_activePort (b : Bool) : (s.setFaultSeen b).S.activePort = s.S.activePort := rfl
@[simp] theorem setFaultSeen_lastSample (b : Bool) : (s.setFaultSeen b).S.lastSample = s.S.lastSample := rfl
@[simp] theorem setFaultSeen_tw (b : Bool) : (s.setFaultSeen b).S.tw = s.S.tw := rfl
@[simp] theorem setFaultSeen_mux0 (b : Bool) : (s.setFaultSeen b).S.mux0 = s.S.mux0 := rfl
@[simp] theorem setFaultSeen_mux1 (b : Bool) : (s.setFaultSeen b).S.mux1 = s.S.mux1 := rfl
@[simp] theorem setFaultSeen_dec (b : Bool) : (s.setFaultSeen b).S.dec = s.S.dec := rfl
@[simp] theorem setFaultSeen_led (b : Bool) : (s.setFaultSeen b).S.led = s.S.led := rfl
@[simp] theorem setFaultSeen_intLatch (b : Bool) : (s.setFaultSeen b).S.intLatch = s.S.intLatch := rfl
@[simp] theorem setFaultSeen_phase (b : Bool) : (s.setFaultSeen b).S.phase = s.S.phase := rfl
@[simp] theorem setFaultSeen_tgt (b : Bool) : (s.setFaultSeen b).S.tgt = s.S.tgt := rfl
@[simp] theorem setFaultSeen_smp (b : Bool) : (s.setFaultSeen b).S.smp = s.S.smp := rfl
@[simp] theorem setFaultSeen_ctx (b : Bool) : (s.setFaultSeen b).S.ctx = s.S.ctx := rfl
@[simp] theorem setFaultSeen_faultSeen (b : Bool) : (s.setFaultSeen b).S.faultSeen = b := rfl
@[simp] theorem setFaultSeen_halted (b : Bool) : (s.setFaultSeen b).S.halted = s.S.halted := rfl
@[simp] theorem setFaultSeen_par (b : Bool) : (s.setFaultSeen b).par = s.par := rfl
@[simp] theorem setFaultSeen_env (b : Bool) : (s.setFaultSeen b).env = s.env := rfl
@[simp] theorem setFaultSeen_obs (b : Bool) : (s.setFaultSeen b).obs = s.obs := rfl

/-! #### `setHalted` -/

@[simp] theorem setHalted_activePort (b : Bool) : (s.setHalted b).S.activePort = s.S.activePort := rfl
@[simp] theorem setHalted_lastSample (b : Bool) : (s.setHalted b).S.lastSample = s.S.lastSample := rfl
@[simp] theorem setHalted_tw (b : Bool) : (s.setHalted b).S.tw = s.S.tw := rfl
@[simp] theorem setHalted_mux0 (b : Bool) : (s.setHalted b).S.mux0 = s.S.mux0 := rfl
@[simp] theorem setHalted_mux1 (b : Bool) : (s.setHalted b).S.mux1 = s.S.mux1 := rfl
@[simp] theorem setHalted_dec (b : Bool) : (s.setHalted b).S.dec = s.S.dec := rfl
@[simp] theorem setHalted_led (b : Bool) : (s.setHalted b).S.led = s.S.led := rfl
@[simp] theorem setHalted_intLatch (b : Bool) : (s.setHalted b).S.intLatch = s.S.intLatch := rfl
@[simp] theorem setHalted_phase (b : Bool) : (s.setHalted b).S.phase = s.S.phase := rfl
@[simp] theorem setHalted_tgt (b : Bool) : (s.setHalted b).S.tgt = s.S.tgt := rfl
@[simp] theorem setHalted_smp (b : Bool) : (s.setHalted b).S.smp = s.S.smp := rfl
@[simp] theorem setHalted_ctx (b : Bool) : (s.setHalted b).S.ctx = s.S.ctx := rfl
@[simp] theorem setHalted_faultSeen (b : Bool) : (s.setHalted b).S.faultSeen = s.S.faultSeen := rfl
@[simp] theorem setHalted_halted (b : Bool) : (s.setHalted b).S.halted = b := rfl
@[simp] theorem setHalted_par (b : Bool) : (s.setHalted b).par = s.par := rfl
@[simp] theorem setHalted_env (b : Bool) : (s.setHalted b).env = s.env := rfl
@[simp] theorem setHalted_obs (b : Bool) : (s.setHalted b).obs = s.obs := rfl

/-! #### `setMuxEn` -/

@[simp] theorem setMuxEn_mux (m : Side) (b : Bool) : (s.setMuxEn m b).S.mux m = ⟨b, (s.S.mux m).sel⟩ := by cases m <;> rfl
@[simp] theorem setMuxEn_mux_other (m : Side) (b : Bool) : (s.setMuxEn m b).S.mux m.other = s.S.mux m.other := by
  cases m <;> rfl
@[simp] theorem setMuxEn_first_mux0 (b : Bool) : (s.setMuxEn .first b).S.mux0 = ⟨b, s.S.mux0.sel⟩ := rfl
@[simp] theorem setMuxEn_first_mux1 (b : Bool) : (s.setMuxEn .first b).S.mux1 = s.S.mux1 := rfl
@[simp] theorem setMuxEn_second_mux1 (b : Bool) : (s.setMuxEn .second b).S.mux1 = ⟨b, s.S.mux1.sel⟩ := rfl
@[simp] theorem setMuxEn_second_mux0 (b : Bool) : (s.setMuxEn .second b).S.mux0 = s.S.mux0 := rfl
@[simp] theorem setMuxEn_activePort (m : Side) (b : Bool) : (s.setMuxEn m b).S.activePort = s.S.activePort := by cases m <;> rfl
@[simp] theorem setMuxEn_lastSample (m : Side) (b : Bool) : (s.setMuxEn m b).S.lastSample = s.S.lastSample := by cases m <;> rfl
@[simp] theorem setMuxEn_tw (m : Side) (b : Bool) : (s.setMuxEn m b).S.tw = s.S.tw := by cases m <;> rfl
@[simp] theorem setMuxEn_dec (m : Side) (b : Bool) : (s.setMuxEn m b).S.dec = s.S.dec := by cases m <;> rfl
@[simp] theorem setMuxEn_led (m : Side) (b : Bool) : (s.setMuxEn m b).S.led = s.S.led := by cases m <;> rfl
@[simp] theorem setMuxEn_intLatch (m : Side) (b : Bool) : (s.setMuxEn m b).S.intLatch = s.S.intLatch := by cases m <;> rfl
@[simp] theorem setMuxEn_phase (m : Side) (b : Bool) : (s.setMuxEn m b).S.phase = s.S.phase := by cases m <;> rfl
@[simp] theorem setMuxEn_tgt (m : Side) (b : Bool) : (s.setMuxEn m b).S.tgt = s.S.tgt := by cases m <;> rfl
@[simp] theorem setMuxEn_smp (m : Side) (b : Bool) : (s.setMuxEn m b).S.smp = s.S.smp := by cases m <;> rfl
@[simp] theorem setMuxEn_ctx (m : Side) (b : Bool) : (s.setMuxEn m b).S.ctx = s.S.ctx := by cases m <;> rfl
@[simp] theorem setMuxEn_faultSeen (m : Side) (b : Bool) : (s.setMuxEn m b).S.faultSeen = s.S.faultSeen := by cases m <;> rfl
@[simp] theorem setMuxEn_halted (m : Side) (b : Bool) : (s.setMuxEn m b).S.halted = s.S.halted := by cases m <;> rfl
@[simp] theorem setMuxEn_par (m : Side) (b : Bool) : (s.setMuxEn m b).par = s.par := by cases m <;> rfl
@[simp] theorem setMuxEn_env (m : Side) (b : Bool) : (s.setMuxEn m b).env = s.env := by cases m <;> rfl
@[simp] theorem setMuxEn_obs (m : Side) (b : Bool) : (s.setMuxEn m b).obs = s.obs := by cases m <;> rfl

/-! #### `setMuxSel` -/

@[simp] theorem setMuxSel_mux (m : Side) (n : BitVec 2) : (s.setMuxSel m n).S.mux m = ⟨(s.S.mux m).en, n⟩ := by cases m <;> rfl
@[simp] theorem setMuxSel_mux_other (m : Side) (n : BitVec 2) : (s.setMuxSel m n).S.mux m.other = s.S.mux m.other := by
  cases m <;> rfl
@[simp] theorem setMuxSel_first_mux0 (n : BitVec 2) : (s.setMuxSel .first n).S.mux0 = ⟨s.S.mux0.en, n⟩ := rfl
@[simp] theorem setMuxSel_first_mux1 (n : BitVec 2) : (s.setMuxSel .first n).S.mux1 = s.S.mux1 := rfl
@[simp] theorem setMuxSel_second_mux1 (n : BitVec 2) : (s.setMuxSel .second n).S.mux1 = ⟨s.S.mux1.en, n⟩ := rfl
@[simp] theorem setMuxSel_second_mux0 (n : BitVec 2) : (s.setMuxSel .second n).S.mux0 = s.S.mux0 := rfl
@[simp] theorem setMuxSel_activePort (m : Side) (n : BitVec 2) : (s.setMuxSel m n).S.activePort = s.S.activePort := by cases m <;> rfl
@[simp] theorem setMuxSel_lastSample (m : Side) (n : BitVec 2) : (s.setMuxSel m n).S.lastSample = s.S.lastSample := by cases m <;> rfl
@[simp] theorem setMuxSel_tw (m : Side) (n : BitVec 2) : (s.setMuxSel m n).S.tw = s.S.tw := by cases m <;> rfl
@[simp] theorem setMuxSel_dec (m : Side) (n : BitVec 2) : (s.setMuxSel m n).S.dec = s.S.dec := by cases m <;> rfl
@[simp] theorem setMuxSel_led (m : Side) (n : BitVec 2) : (s.setMuxSel m n).S.led = s.S.led := by cases m <;> rfl
@[simp] theorem setMuxSel_intLatch (m : Side) (n : BitVec 2) : (s.setMuxSel m n).S.intLatch = s.S.intLatch := by cases m <;> rfl
@[simp] theorem setMuxSel_phase (m : Side) (n : BitVec 2) : (s.setMuxSel m n).S.phase = s.S.phase := by cases m <;> rfl
@[simp] theorem setMuxSel_tgt (m : Side) (n : BitVec 2) : (s.setMuxSel m n).S.tgt = s.S.tgt := by cases m <;> rfl
@[simp] theorem setMuxSel_smp (m : Side) (n : BitVec 2) : (s.setMuxSel m n).S.smp = s.S.smp := by cases m <;> rfl
@[simp] theorem setMuxSel_ctx (m : Side) (n : BitVec 2) : (s.setMuxSel m n).S.ctx = s.S.ctx := by cases m <;> rfl
@[simp] theorem setMuxSel_faultSeen (m : Side) (n : BitVec 2) : (s.setMuxSel m n).S.faultSeen = s.S.faultSeen := by cases m <;> rfl
@[simp] theorem setMuxSel_halted (m : Side) (n : BitVec 2) : (s.setMuxSel m n).S.halted = s.S.halted := by cases m <;> rfl
@[simp] theorem setMuxSel_par (m : Side) (n : BitVec 2) : (s.setMuxSel m n).par = s.par := by cases m <;> rfl
@[simp] theorem setMuxSel_env (m : Side) (n : BitVec 2) : (s.setMuxSel m n).env = s.env := by cases m <;> rfl
@[simp] theorem setMuxSel_obs (m : Side) (n : BitVec 2) : (s.setMuxSel m n).obs = s.obs := by cases m <;> rfl

/-! #### The parts that are not the record -/

@[simp] theorem useFree_S (n : Nat) : (s.useFree n).S = s.S := rfl
@[simp] theorem useFree_par (n : Nat) : (s.useFree n).par = s.par := rfl
@[simp] theorem useFree_obs (n : Nat) : (s.useFree n).obs = s.obs := rfl
@[simp] theorem useFree_env (n : Nat) : (s.useFree n).env = { s.env with free := s.env.free + n } := rfl

@[simp] theorem respond_S (r : Recipient) (c : RespCode) (w : Option Word16) : (s.respond r c w).S = s.S := rfl
@[simp] theorem respond_par (r : Recipient) (c : RespCode) (w : Option Word16) : (s.respond r c w).par = s.par := rfl
@[simp] theorem respond_env (r : Recipient) (c : RespCode) (w : Option Word16) : (s.respond r c w).env = s.env := rfl
@[simp] theorem respond_responses (r : Recipient) (c : RespCode) (w : Option Word16) :
    (s.respond r c w).obs.responses = ⟨r, c, w⟩ :: s.obs.responses := rfl
@[simp] theorem respond_trace (r : Recipient) (c : RespCode) (w : Option Word16) :
    (s.respond r c w).obs.trace = s.obs.trace := rfl
@[simp] theorem respond_hazard (r : Recipient) (c : RespCode) (w : Option Word16) :
    (s.respond r c w).obs.hazard = s.obs.hazard := rfl

@[simp] theorem record_S (e : TraceEntry) : (s.record e).S = s.S := rfl
@[simp] theorem record_par (e : TraceEntry) : (s.record e).par = s.par := rfl
@[simp] theorem record_env (e : TraceEntry) : (s.record e).env = s.env := rfl
@[simp] theorem record_responses (e : TraceEntry) : (s.record e).obs.responses = s.obs.responses := rfl
@[simp] theorem record_trace (e : TraceEntry) : (s.record e).obs.trace = e :: s.obs.trace := rfl
@[simp] theorem record_hazard (e : TraceEntry) : (s.record e).obs.hazard = s.obs.hazard := rfl

@[simp] theorem markHazard_S (b : Bool) : (s.markHazard b).S = s.S := rfl
@[simp] theorem markHazard_par (b : Bool) : (s.markHazard b).par = s.par := rfl
@[simp] theorem markHazard_env (b : Bool) : (s.markHazard b).env = s.env := rfl
@[simp] theorem markHazard_responses (b : Bool) : (s.markHazard b).obs.responses = s.obs.responses := rfl
@[simp] theorem markHazard_trace (b : Bool) : (s.markHazard b).obs.trace = s.obs.trace := rfl
@[simp] theorem markHazard_hazard (b : Bool) : (s.markHazard b).obs.hazard = (s.obs.hazard || b) := rfl

@[simp] theorem wait_S (w : Word16) (n : Nat) : (s.wait w n).S = s.S := rfl
@[simp] theorem wait_par (w : Word16) (n : Nat) : (s.wait w n).par = s.par := rfl
@[simp] theorem wait_obs (w : Word16) (n : Nat) : (s.wait w n).obs = s.obs := rfl
@[simp] theorem wait_env (w : Word16) (n : Nat) :
    (s.wait w n).env = { s.env with requests := insertAt n w s.env.requests } := rfl

@[simp] theorem mux_first (S : Selector) : S.mux .first = S.mux0 := rfl
@[simp] theorem mux_second (S : Selector) : S.mux .second = S.mux1 := rfl
@[simp] theorem other_first : Side.first.other = .second := rfl
@[simp] theorem other_second : Side.second.other = .first := rfl

end Sys2Proof.Machine.State
end

