-- ==== Sys2Proof/Laws/Ops.lean ====
section
/-! SUPPORT. What each shared operation can do, said once; later proofs cite these lemmas and do not unfold the operations. -/

namespace Sys2Proof.Machine

/-! ### Waiting requests -/

theorem insertAt_length {α : Type} (x : α) (l : List α) : insertAt l.length x l = l ++ [x] := by
  induction l with
  | nil => rfl
  | cons y l ih => simp [insertAt, ih]

theorem mem_insertAt {α : Type} (n : Nat) (x y : α) (l : List α) : y ∈ insertAt n x l ↔ y = x ∨ y ∈ l := by
  induction l generalizing n with
  | nil => cases n <;> simp [insertAt]
  | cons z l ih =>
    cases n with
    | zero => simp [insertAt]
    | succ n => simp [insertAt, ih]; tauto

/-- The word of IRQ, and what a notification does to the waiting words, without the model's names. -/
theorem addInterrupt_eq (notice : Option Nat) (l : List Word16) :
    addInterrupt notice l =
      match notice with
      | some n => insertAt n 0x0400#16 l
      | none => if 0x0400#16 ∈ l then l else l ++ [0x0400#16] := by
  cases notice <;> rfl

/-- A notification adds nothing but an IRQ, and after it one waits: none is lost (R57). -/
theorem mem_addInterrupt (notice : Option Nat) (w : Word16) (l : List Word16) :
    w ∈ addInterrupt notice l ↔ w = 0x0400#16 ∨ w ∈ l := by
  rw [addInterrupt_eq]
  cases notice with
  | some n => exact mem_insertAt n _ _ l
  | none =>
    by_cases h : 0x0400#16 ∈ l
    · simp only [if_pos h]; exact ⟨.inr, fun h' => h'.elim (fun e => e ▸ h) id⟩
    · simp only [if_neg h, List.mem_append, List.mem_singleton]; tauto

namespace State

variable (s : State)

/-! ### The two banks -/

@[simp] theorem useBus_S : s.useBus.S = s.S := by unfold useBus; split <;> rfl
@[simp] theorem useBus_par : s.useBus.par = s.par := by unfold useBus; split <;> rfl
@[simp] theorem useBus_obs : s.useBus.obs = s.obs := by unfold useBus; split <;> rfl
@[simp] theorem useBus_requests : s.useBus.env.requests = s.env.requests := by unfold useBus; split <;> rfl
@[simp] theorem useBus_turns : s.useBus.env.turns = s.env.turns := by unfold useBus; split <;> rfl
@[simp] theorem useBus_bare : s.useBus.env.bare = s.env.bare := by unfold useBus; split <;> rfl
@[simp] theorem useBus_panel : s.useBus.env.panel = s.env.panel := by unfold useBus; split <;> rfl
@[simp] theorem useBus_readScript : s.useBus.env.readScript = s.env.readScript := by unfold useBus; split <;> rfl
@[simp] theorem useBus_busScript : s.useBus.env.busScript = s.env.busScript.tail := by
  unfold useBus; split <;> simp_all [useFree]

@[simp] theorem useRead_S : s.useRead.S = s.S := by unfold useRead; split <;> rfl
@[simp] theorem useRead_par : s.useRead.par = s.par := by unfold useRead; split <;> rfl
@[simp] theorem useRead_obs : s.useRead.obs = s.obs := by unfold useRead; split <;> rfl
@[simp] theorem useRead_requests : s.useRead.env.requests = s.env.requests := by unfold useRead; split <;> rfl
@[simp] theorem useRead_turns : s.useRead.env.turns = s.env.turns := by unfold useRead; split <;> rfl
@[simp] theorem useRead_bare : s.useRead.env.bare = s.env.bare := by unfold useRead; split <;> rfl
@[simp] theorem useRead_panel : s.useRead.env.panel = s.env.panel := by unfold useRead; split <;> rfl
@[simp] theorem useRead_busScript : s.useRead.env.busScript = s.env.busScript := by unfold useRead; split <;> rfl
@[simp] theorem useRead_readScript : s.useRead.env.readScript = s.env.readScript.tail := by
  unfold useRead; split <;> simp_all [useFree]

/-- The next bus answer depends only on the script and the counter of free values. -/
theorem busAnswer_congr {s t : State} (h : t.env.busScript = s.env.busScript) (h' : t.env.free = s.env.free) :
    t.busAnswer = s.busAnswer := by
  unfold busAnswer; rw [h, h']

/-- The next read depends only on the script, the counter of free values and the panel. -/
theorem readByte_congr {s t : State} (h : t.env.readScript = s.env.readScript) (h' : t.env.free = s.env.free)
    (hp : t.env.panel = s.env.panel) : t.readByte = s.readByte := by
  unfold readByte readAnswer; rw [h, h', hp]

/-! ### The interrupt notification -/

@[simp] theorem notify_S (n : Option Nat) : (s.notify n).S = s.S := by
  unfold notify; repeat' split
  all_goals rfl
@[simp] theorem notify_par (n : Option Nat) : (s.notify n).par = s.par := by
  unfold notify; repeat' split
  all_goals rfl
@[simp] theorem notify_obs (n : Option Nat) : (s.notify n).obs = s.obs := by
  unfold notify; repeat' split
  all_goals rfl

/-- A notification changes nothing but the waiting requests. -/
theorem notify_env (n : Option Nat) : (s.notify n).env = { s.env with requests := (s.notify n).env.requests } := by
  unfold notify; repeat' split
  all_goals rfl

/-- What a notification does to the waiting requests: one IRQ more unless the core is halted (R57, R113). -/
theorem notify_requests (n : Option Nat) :
    (s.notify n).env.requests = if s.S.halted then s.env.requests else addInterrupt n s.env.requests := by
  unfold notify; split <;> rfl

@[simp] theorem clearLatch_S (n : Option Nat) : (s.clearLatch n).S = { s.S with intLatch := false } := by
  unfold clearLatch; split <;> simp [setLatch]
@[simp] theorem clearLatch_par (n : Option Nat) : (s.clearLatch n).par = s.par := by
  unfold clearLatch; split <;> simp
@[simp] theorem clearLatch_obs (n : Option Nat) : (s.clearLatch n).obs = s.obs := by
  unfold clearLatch; split <;> simp

/-- A read changes nothing of the environment but the waiting requests. -/
theorem clearLatch_env (n : Option Nat) :
    (s.clearLatch n).env = { s.env with requests := (s.clearLatch n).env.requests } := by
  unfold clearLatch; split
  · rw [notify_env]; rfl
  · rfl

theorem clearLatch_requests (n : Option Nat) :
    (s.clearLatch n).env.requests =
      if s.S.intLatch && !s.S.halted then addInterrupt n s.env.requests else s.env.requests := by
  unfold clearLatch
  cases h : s.S.intLatch <;> cases h' : s.S.halted <;> simp [notify_requests, h']

/-! ### Unspecified values -/

@[simp] theorem losesLed_S : s.losesLed.S = { s.S with led := Config.freeByte s.env.free } := rfl
@[simp] theorem losesLed_par : s.losesLed.par = s.par := rfl
@[simp] theorem losesLed_obs : s.losesLed.obs = s.obs := rfl
@[simp] theorem losesLed_env : s.losesLed.env = { s.env with free := s.env.free + 1 } := rfl
@[simp] theorem losesLatch_S : s.losesLatch.S = { s.S with intLatch := Config.freeBool s.env.free } := rfl
@[simp] theorem losesLatch_par : s.losesLatch.par = s.par := rfl
@[simp] theorem losesLatch_obs : s.losesLatch.obs = s.obs := rfl
@[simp] theorem losesLatch_env : s.losesLatch.env = { s.env with free := s.env.free + 1 } := rfl
@[simp] theorem losesSample_S : s.losesSample.S = { s.S with lastSample := Config.freeByte s.env.free } := rfl
@[simp] theorem losesSample_par : s.losesSample.par = s.par := rfl
@[simp] theorem losesSample_obs : s.losesSample.obs = s.obs := rfl
@[simp] theorem losesSample_env : s.losesSample.env = { s.env with free := s.env.free + 1 } := rfl
@[simp] theorem losesAll_phase : s.losesAll.S.phase = .idle := rfl
@[simp] theorem losesAll_halted : s.losesAll.S.halted = true := rfl
@[simp] theorem losesAll_par : s.losesAll.par = s.par := rfl
@[simp] theorem losesAll_obs : s.losesAll.obs = s.obs := rfl
@[simp] theorem losesAll_env : s.losesAll.env = { s.env with free := s.env.free + 8 } := rfl

/-- `losesOperands` changes the three latched operands of the record and nothing else of it. -/
theorem losesOperands_S :
    s.losesOperands.S =
      { s.S with tgt := s.losesOperands.S.tgt, smp := s.losesOperands.S.smp, ctx := s.losesOperands.S.ctx } := rfl
@[simp] theorem losesOperands_par : s.losesOperands.par = s.par := rfl
@[simp] theorem losesOperands_obs : s.losesOperands.obs = s.obs := rfl
@[simp] theorem losesOperands_env : s.losesOperands.env = { s.env with free := s.env.free + 2 } := rfl

/-! ### `raise BusFault` (R214) -/

/-- HALT swallows the failure of its LED write: nothing of the record changes but `faultSeen`, `halted` and the label (R173, R206). -/
theorem raiseBusFault_halt (hp : s.S.phase = .l1) (hc : s.S.ctx = .halt) :
    s.raiseBusFault .write = (s.setFaultSeen true).endHalt := by
  unfold raiseBusFault; rw [if_pos ⟨hp, hc, rfl⟩]

/-- Everywhere else the operation is abandoned with the kind's code (R214). -/
theorem raiseBusFault_abandon (k : BusKind) (h : ¬ (s.S.phase = .l1 ∧ s.S.ctx = .halt ∧ k = .write)) :
    s.raiseBusFault k = ((s.setFaultSeen true).respond s.recipient k.code none).setPhase .idle := by
  unfold raiseBusFault; rw [if_neg h]

@[simp] theorem raiseBusFault_faultSeen (k : BusKind) : (s.raiseBusFault k).S.faultSeen = true := by
  unfold raiseBusFault; split <;> rfl
@[simp] theorem raiseBusFault_phase (k : BusKind) : (s.raiseBusFault k).S.phase = .idle := by
  unfold raiseBusFault; split <;> rfl
@[simp] theorem raiseBusFault_par (k : BusKind) : (s.raiseBusFault k).par = s.par := by
  unfold raiseBusFault; split <;> rfl
@[simp] theorem raiseBusFault_env (k : BusKind) : (s.raiseBusFault k).env = s.env := by
  unfold raiseBusFault; split <;> rfl
@[simp] theorem raiseBusFault_trace (k : BusKind) : (s.raiseBusFault k).obs.trace = s.obs.trace := by
  unfold raiseBusFault; split <;> rfl
@[simp] theorem raiseBusFault_hazard (k : BusKind) : (s.raiseBusFault k).obs.hazard = s.obs.hazard := by
  unfold raiseBusFault; split <;> rfl

/-! ### The sequencer's moves -/

/-- A label whose successor depends on the label alone. -/
def chainLabel : Phase → Bool
  | .idle => false
  | .l1 => false
  | .i2 => false
  | .i3 => false
  | .z12 => false
  | _ => true

/-- On a chain label the sequencer moves to the next label and does nothing else (R155). -/
theorem advance_chain (h : chainLabel s.S.phase = true) : s.advance = s.setPhase s.S.phase.succ := by
  unfold advance; cases hp : s.S.phase <;> simp_all [chainLabel]

/-- The sequencer issued the micro-operation: it moves on. -/
theorem afterMicro_own {i : Instr} (t : State) (h : s.nextMicro = some i) :
    s.afterMicro i t = (t.record (.done s.S.phase (encode i))).advance := by
  unfold afterMicro; rw [if_pos h]

/-- Somebody else issued it: the label stays. -/
theorem afterMicro_other {i : Instr} (t : State) (h : s.nextMicro ≠ some i) :
    s.afterMicro i t = t.record (.done s.S.phase (encode i)) := by
  unfold afterMicro; rw [if_neg h]

/-- The operations that only set a field: every micro-operation but the two bank transactions and SET_SAMPLE. -/
def setter : Instr → Bool
  | .twDisable => true
  | .twEnable => true
  | .twRoute _ => true
  | .muxDisable _ => true
  | .muxEnable _ => true
  | .muxSelect _ _ => true
  | .decDisable => true
  | .decEnable => true
  | .decAddr _ => true
  | .expInit => true
  | .waitDebounce => true
  | .waitSettle => true
  | .setActive _ => true
  | _ => false

/-- A label that names a setter is a chain label (R28). -/
theorem chainLabel_of_setter {i : Instr} (h : s.nextMicro = some i) (hi : setter i = true) :
    chainLabel s.S.phase = true := by
  unfold nextMicro at h
  cases hp : s.S.phase <;> simp only [hp] at h <;> first
    | rfl
    | (cases h <;> exact hi)

/-- What a setter does besides its field: it is traced at its label, and the label moves to its successor exactly when the sequencer
issued it (R129). -/
theorem afterMicro_setter {i : Instr} (t : State) (hi : setter i = true) (hp : t.S.phase = s.S.phase) :
    s.afterMicro i t =
      (t.record (.done s.S.phase (encode i))).setPhase (if s.nextMicro = some i then s.S.phase.succ else s.S.phase) := by
  by_cases h : s.nextMicro = some i
  · rw [afterMicro_own s t h, if_pos h, advance_chain]
    · simp [hp]
    · simpa [hp] using chainLabel_of_setter s h hi
  · rw [afterMicro_other s t h, if_neg h, ← hp]; rfl

/-- SELECT's dispatch writes the label and, for a connect, the target. -/
theorem dispatchPort_S (p : Port) :
    (s.dispatchPort p).S = if s.S.activePort = some p then { s.S with phase := .l1 }
      else { s.S with tgt := p, phase := .c1 } := by
  unfold dispatchPort; split <;> rfl
@[simp] theorem dispatchPort_par (p : Port) : (s.dispatchPort p).par = s.par := by unfold dispatchPort; split <;> rfl
@[simp] theorem dispatchPort_env (p : Port) : (s.dispatchPort p).env = s.env := by unfold dispatchPort; split <;> rfl
@[simp] theorem dispatchPort_obs (p : Port) : (s.dispatchPort p).obs = s.obs := by unfold dispatchPort; split <;> rfl

/-- The sequencer's moves keep the parameters. -/
@[simp] theorem advance_par : s.advance.par = s.par := by
  unfold advance afterRefresh dispatchEdge finish endHalt endReset finish
  repeat' split
  all_goals first | rfl | simp

/-- The sequencer's moves keep the trace. -/
@[simp] theorem advance_trace : s.advance.obs.trace = s.obs.trace := by
  unfold advance afterRefresh dispatchEdge finish endHalt endReset finish
  repeat' split
  all_goals first | rfl | simp

/-- The sequencer's moves keep the hazard mark. -/
@[simp] theorem advance_hazard : s.advance.obs.hazard = s.obs.hazard := by
  unfold advance afterRefresh dispatchEdge finish endHalt endReset finish
  repeat' split
  all_goals first | rfl | simp

/-- The sequencer's moves use no oracle answer and issue nothing: only the counter of free values may move, at the end of RESET. -/
theorem advance_env : s.advance.env = { s.env with free := s.advance.env.free } := by
  unfold advance afterRefresh dispatchEdge finish endHalt endReset finish
  repeat' split
  all_goals first | rfl | simp

/-- What the sequencer's moves leave of the record: only the label, `halted` and the three latched operands may change. -/
theorem advance_S :
    s.advance.S = { s.S with
      phase := s.advance.S.phase, halted := s.advance.S.halted, tgt := s.advance.S.tgt, smp := s.advance.S.smp
      ctx := s.advance.S.ctx } := by
  unfold advance afterRefresh dispatchEdge dispatchPort finish endHalt endReset finish
  repeat' split
  all_goals rfl

@[simp] theorem afterMicro_par (i : Instr) (t : State) : (s.afterMicro i t).par = t.par := by
  unfold afterMicro; split <;> simp
@[simp] theorem afterMicro_trace (i : Instr) (t : State) :
    (s.afterMicro i t).obs.trace = .done s.S.phase (encode i) :: t.obs.trace := by
  unfold afterMicro; split <;> simp
@[simp] theorem afterMicro_hazard (i : Instr) (t : State) : (s.afterMicro i t).obs.hazard = t.obs.hazard := by
  unfold afterMicro; split <;> simp
theorem afterMicro_env (i : Instr) (t : State) :
    (s.afterMicro i t).env = { t.env with free := (s.afterMicro i t).env.free } := by
  unfold afterMicro; split
  · rw [advance_env]; rfl
  · rfl
theorem afterMicro_S (i : Instr) (t : State) :
    (s.afterMicro i t).S = { t.S with
      phase := (s.afterMicro i t).S.phase, halted := (s.afterMicro i t).S.halted, tgt := (s.afterMicro i t).S.tgt
      smp := (s.afterMicro i t).S.smp, ctx := (s.afterMicro i t).S.ctx } := by
  unfold afterMicro; split
  · rw [advance_S]; rfl
  · rfl

/-! ### Acceptance -/

/-- A halted core answers `E_HALTED` (R207). -/
theorem accept_halted (i : Instr) (t : State) (h : s.S.halted = true) :
    s.accept i t = s.respond .caller .eHalted none := by
  unfold accept; rw [if_pos h]

/-- An idle core that is not halted takes the operation (R67, R140). -/
theorem accept_taken (i : Instr) (t : State) (h : s.S.halted = false) (hp : s.S.phase = .idle) : s.accept i t = t := by
  unfold accept; rw [if_neg (by simp [h]), if_pos hp]

/-- In a busy core the request waits behind the others (R67, R69). -/
theorem accept_waits (i : Instr) (t : State) (h : s.S.halted = false) (hp : s.S.phase ≠ .idle) :
    s.accept i t = s.wait (requestWord i) s.env.requests.length := by
  unfold accept; rw [if_neg (by simp [h]), if_neg hp]

@[simp] theorem malformed_S : s.malformed.S = s.S := by unfold malformed; split <;> rfl
@[simp] theorem malformed_par : s.malformed.par = s.par := by unfold malformed; split <;> rfl

/-- A malformed word gets one response and changes nothing else but the counter of free values (R94, R96). -/
theorem malformed_env : s.malformed.env = { s.env with free := s.malformed.env.free } := by
  unfold malformed; split <;> rfl
@[simp] theorem malformed_trace : s.malformed.obs.trace = s.obs.trace := by unfold malformed; split <;> rfl
@[simp] theorem malformed_hazard : s.malformed.obs.hazard = s.obs.hazard := by unfold malformed; split <;> rfl

/-- What a halted core answers to the word `w`: one refusal to the caller, `E_HALTED` to a public operation; none to IRQ (R113, R207). -/
theorem refuse_cases (w : Word16) (h : s.S.halted = true) :
    (w = 0x0400#16 ∧ s.refuse w = s) ∨
    (w ≠ 0x0400#16 ∧ ∃ c n, s.refuse w = (s.respond .caller c none).useFree n ∧
      (c = .eHalted ∨ c = .eMalformed ∧ ∀ i, decode w = .ok i → i.isPublic = false)) := by
  have hm : ∃ c n, s.malformed = (s.respond .caller c none).useFree n ∧ (c = .eHalted ∨ c = .eMalformed) := by
    unfold malformed; rw [if_pos h]
    cases Config.freeBool s.env.free
    · exact ⟨_, 1, rfl, .inl rfl⟩
    · exact ⟨_, 1, rfl, .inr rfl⟩
  obtain ⟨c, n, hm, hc⟩ := hm
  unfold refuse
  cases hd : decode w with
  | error e =>
    refine .inr ⟨fun hw => ?_, c, n, hm, hc.imp_right fun h => ⟨h, nofun⟩⟩
    subst hw; cases hd
  | ok i =>
    by_cases hi : i = .irq
    · subst hi
      exact .inl ⟨decode_irq hd, rfl⟩
    · refine .inr ⟨fun hw => hi ?_, ?_⟩
      · subst hw
        exact (Except.ok.inj (hd.symm.trans (rfl : decode 0x0400#16 = .ok .irq)))
      · by_cases hp : i.isPublic = true
        · refine ⟨.eHalted, 0, ?_, .inl rfl⟩
          cases i <;> simp_all <;> rfl
        · refine ⟨c, n, ?_, hc.imp_right fun h => ⟨h, ?_⟩⟩
          · rw [← hm]; cases i <;> simp_all
          · intro j hj; cases hj; simpa using hp

/-- The words `ws` refused one after the other by a halted core: nothing changes but the responses, which answer them (R207), and the counter of
free values. -/
theorem foldl_refuse (ws : List Word16) (h : s.S.halted = true) (hr : 0x0500#16 ∉ ws) :
    ∃ l n, ws.foldl refuse s =
      { s with env.free := n, obs.responses := l ++ s.obs.responses } ∧ answersRefusing ws l := by
  induction ws generalizing s with
  | nil => exact ⟨[], s.env.free, rfl, rfl, nofun⟩
  | cons w ws ih =>
    simp only [List.mem_cons, not_or] at hr
    obtain ⟨rfl, hs⟩ | ⟨hw, c, n, hs, hc⟩ := refuse_cases s w h
    · obtain ⟨l, m, hl, ha⟩ := ih s h hr.2
      exact ⟨l, m, by rw [List.foldl_cons, hs, hl], by
        unfold answersRefusing; rwa [show answered (0x0400#16 :: ws) = answered ws from List.filter_cons_of_neg (by decide)]⟩
    · obtain ⟨l, m, hl, hlen, ha⟩ := ih (s.refuse w) (by rw [hs]; exact h) hr.2
      refine ⟨l ++ [⟨.caller, c, none⟩], m, ?_, ?_⟩
      · rw [List.foldl_cons, hl, hs]
        simp [respond, useFree]
      · have hk : answered (w :: ws) = w :: answered ws := List.filter_cons_of_pos (by simpa using ⟨Ne.symm hr.1, hw⟩)
        unfold answersRefusing
        rw [hk]
        refine ⟨by simp [hlen], ?_⟩
        simp only [List.reverse_append, List.reverse_singleton, List.singleton_append, List.zip_cons_cons, List.mem_cons,
          forall_eq_or_imp]
        exact ⟨by simpa using hc, ha⟩

/-- What the acceptance of a RESET does to the requests that wait: they are refused, but for another RESET, and nothing else changes
(R207, R253). -/
theorem refuseWaiting_cases (h : s.S.halted = true) :
    ∃ l n, s.refuseWaiting =
      { s with
        env := { s.env with requests := s.env.requests.filter (· = 0x0500#16), free := n }
        obs.responses := l ++ s.obs.responses } ∧ answersRefusing s.env.requests l := by
  obtain ⟨l, n, hl, ha⟩ := foldl_refuse { s with env.requests := s.env.requests.filter (· = encode .reset) }
    (s.env.requests.filter (· ≠ encode .reset)) h (by simp [show encode .reset = 0x0500#16 from rfl])
  have hk : answered (s.env.requests.filter (· ≠ encode .reset)) = answered s.env.requests := by
    rw [answered, List.filter_filter]
    exact List.filter_congr fun w _ => by simp [show encode .reset = 0x0500#16 from rfl]; tauto
  exact ⟨l, n, hl, by unfold answersRefusing at ha; rwa [hk] at ha⟩

@[simp] theorem refuse_S (w : Word16) : (s.refuse w).S = s.S := by
  unfold refuse; repeat' split
  all_goals simp
@[simp] theorem refuse_par (w : Word16) : (s.refuse w).par = s.par := by
  unfold refuse; repeat' split
  all_goals simp

/-- A word presented to a core that is not halted waits, and a RESET always does (R67, R69, R207). -/
theorem present_waits (w : Word16) (n : Nat) (h : s.S.halted = false ∨ w = 0x0500#16) : s.present w n = s.wait w n := by
  unfold present; rw [if_neg]
  rintro ⟨h₁, h₂⟩
  rcases h with h | h
  · simp [h] at h₁
  · exact h₂ h

/-- Any other word presented to a halted core is refused (R207). -/
theorem present_refused (w : Word16) (n : Nat) (h : s.S.halted = true) (hw : w ≠ 0x0500#16) : s.present w n = s.refuse w := by
  unfold present; rw [if_pos ⟨h, hw⟩]

end State

end Sys2Proof.Machine
end

