-- ==== Sys2Proof/Laws/PerInstr.lean ====
section
/-! SUPPORT. One fact per operation, as syntax: its word matches the row of the opcode map that has its mnemonic, and the row's group says
whether the command port takes it (R94 to R96). -/

namespace Sys2Proof.Laws.OpcodeRow

/-- The operation's word is admitted by the row with its mnemonic, which stands among the public rows exactly when the operation is
public. -/
def Statement (i : Instr) : Prop :=
  ∃ r ∈ if i.isPublic then publicRows else microRows, r.mnemonic.toList = i.mnemonic ∧ r.admits (encode i) = true

/-- A word whose argument byte is unconstrained by its row. -/
theorem admits_any (name : String) (op arg : Byte) :
    (OpcodeRow.mk name (op ++ 0#8) 0xFF00#16 15).admits (op ++ arg) = true := by
  have h : (op ++ arg) &&& 0xFF00#16 = op ++ 0#8 := by
    rw [show 0xFF00#16 = 0xFF#8 ++ 0#8 from rfl, BitVec.and_append]
    congr 1
    · exact BitVec.and_allOnes
    · exact BitVec.and_zero
  simp only [OpcodeRow.admits, h, decide_true, Bool.true_and, decide_eq_true_eq]
  omega

theorem select (idx : Int) : Statement (.select idx) :=
  ⟨publicRows[0], (by decide : publicRows[0] ∈ publicRows), rfl, admits_any "SELECT" 0x01#8 _⟩

theorem disconnect : Statement .disconnect :=
  ⟨publicRows[1], (by decide : publicRows[1] ∈ publicRows), rfl, by decide⟩

theorem status : Statement .status :=
  ⟨publicRows[2], (by decide : publicRows[2] ∈ publicRows), rfl, by decide⟩

theorem irq : Statement .irq :=
  ⟨publicRows[3], (by decide : publicRows[3] ∈ publicRows), rfl, by decide⟩

theorem reset : Statement .reset :=
  ⟨publicRows[4], (by decide : publicRows[4] ∈ publicRows), rfl, by decide⟩

theorem halt : Statement .halt :=
  ⟨publicRows[5], (by decide : publicRows[5] ∈ publicRows), rfl, by decide⟩

theorem twDisable : Statement .twDisable :=
  ⟨microRows[0], (by decide : microRows[0] ∈ microRows), rfl, by decide⟩

theorem twEnable : Statement .twEnable :=
  ⟨microRows[1], (by decide : microRows[1] ∈ microRows), rfl, by decide⟩

theorem twRoute (side : Side) : Statement (.twRoute side) :=
  ⟨microRows[2], (by decide : microRows[2] ∈ microRows), rfl, by cases side <;> decide⟩

theorem muxDisable (m : Side) : Statement (.muxDisable m) :=
  ⟨microRows[3], (by decide : microRows[3] ∈ microRows), rfl, by cases m <;> decide⟩

theorem muxEnable (m : Side) : Statement (.muxEnable m) :=
  ⟨microRows[4], (by decide : microRows[4] ∈ microRows), rfl, by cases m <;> decide⟩

theorem muxSelect (m : Side) (n : BitVec 2) : Statement (.muxSelect m n) :=
  ⟨microRows[5], (by decide : microRows[5] ∈ microRows), rfl, by cases m <;> revert n <;> decide⟩

theorem decDisable : Statement .decDisable :=
  ⟨microRows[6], (by decide : microRows[6] ∈ microRows), rfl, by decide⟩

theorem decEnable : Statement .decEnable :=
  ⟨microRows[7], (by decide : microRows[7] ∈ microRows), rfl, by decide⟩

theorem decAddr (a : BitVec 3) : Statement (.decAddr a) :=
  ⟨microRows[8], (by decide : microRows[8] ∈ microRows), rfl, by revert a; decide⟩

theorem expInit : Statement .expInit :=
  ⟨microRows[9], (by decide : microRows[9] ∈ microRows), rfl, by decide⟩

theorem expRead : Statement .expRead :=
  ⟨microRows[10], (by decide : microRows[10] ∈ microRows), rfl, by decide⟩

theorem expWrite (b : Byte) : Statement (.expWrite b) :=
  ⟨microRows[11], (by decide : microRows[11] ∈ microRows), rfl, admits_any "EXP_WRITE" 0x42#8 _⟩

theorem waitDebounce : Statement .waitDebounce :=
  ⟨microRows[12], (by decide : microRows[12] ∈ microRows), rfl, by decide⟩

theorem waitSettle : Statement .waitSettle :=
  ⟨microRows[13], (by decide : microRows[13] ∈ microRows), rfl, by decide⟩

theorem setActive (v : Option Port) : Statement (.setActive v) :=
  ⟨microRows[14], (by decide : microRows[14] ∈ microRows), rfl, by
    rcases v with _ | p
    · decide
    · revert p; decide⟩

theorem setSample (b : Byte) : Statement (.setSample b) :=
  ⟨microRows[15], (by decide : microRows[15] ∈ microRows), rfl, admits_any "SET_SAMPLE" 0x61#8 _⟩

end Sys2Proof.Laws.OpcodeRow
end

