-- ==== Sys2Proof/Laws/Sequencer.lean ====
section
/-! SUPPORT. One step of the sequencer, said once: what the micro-operations that use no bus do to the record, and what a step of the
core is at a label that names one of them. -/

namespace Sys2Proof.Machine

/-- What a micro-operation that uses no bus writes into the record, the label left aside (R120 to R128, R131, R132, R134). -/
def Selector.apply (S : Selector) : Instr → Selector
  | .twDisable => { S with tw := ⟨false, S.tw.side⟩ }
  | .twEnable => { S with tw := ⟨true, S.tw.side⟩ }
  | .twRoute d => { S with tw := ⟨S.tw.en, d⟩ }
  | .muxDisable .first => { S with mux0 := ⟨false, S.mux0.sel⟩ }
  | .muxDisable .second => { S with mux1 := ⟨false, S.mux1.sel⟩ }
  | .muxEnable .first => { S with mux0 := ⟨true, S.mux0.sel⟩ }
  | .muxEnable .second => { S with mux1 := ⟨true, S.mux1.sel⟩ }
  | .muxSelect .first n => { S with mux0 := ⟨S.mux0.en, n⟩ }
  | .muxSelect .second n => { S with mux1 := ⟨S.mux1.en, n⟩ }
  | .decDisable => { S with dec := ⟨false, S.dec.addr⟩ }
  | .decEnable => { S with dec := ⟨true, S.dec.addr⟩ }
  | .decAddr a => { S with dec := ⟨S.dec.en, a⟩ }
  | .setActive v => { S with activePort := v }
  | _ => S

/-- The micro-operation is written while the device it programs is enabled (R130). -/
def Selector.breaks (S : Selector) : Instr → Bool
  | .twRoute _ => S.tw.en
  | .muxSelect m _ => (S.mux m).en
  | .decAddr _ => S.dec.en
  | _ => false

/-- A setter that uses no bus. -/
def busFree : Instr → Bool
  | .expInit => false
  | i => State.setter i

namespace State

/-- The labels C1 to C12 name the micro-operations of `connectPort(tgt)`, in order (R102, R152). -/
theorem connect_labels (s : State) :
    [Phase.c1, .c2, .c3, .c4, .c5, .c6, .c7, .c8, .c9, .c10, .c11, .c12].map (fun l => (s.setPhase l).nextMicro) =
      (connectPort s.par.table s.S.tgt).map some := rfl

/-- The labels D1 to D5 name the micro-operations of `disconnectAll()`, in order (R102, R154). -/
theorem disconnect_labels (s : State) :
    [Phase.d1, .d2, .d3, .d4, .d5].map (fun l => (s.setPhase l).nextMicro) = disconnectAll.map some := rfl

/-- The label L1 names the micro-operation of `refreshLeds()` (R102, R171). -/
theorem refresh_label (s : State) :
    [(s.setPhase .l1).nextMicro] = (refreshLeds s.par.table s.S.activePort).map some := rfl

/-- The labels Z1 to Z12 name the micro-operations of RESET, in order (R203). -/
theorem reset_labels (s : State) :
    [Phase.z1, .z2, .z3, .z4, .z5, .z6, .z7, .z8, .z9, .z10, .z11, .z12].map (fun l => (s.setPhase l).nextMicro) =
      (resetSequence s.par s.S.smp).map some := rfl

/-- A setter that uses no bus, issued by the sequencer, is its own write, one trace entry and the move to the next label (R129). -/
theorem exec_setter (s : State) {i : Instr} (hi : busFree i = true) (hn : s.nextMicro = some i) :
    exec i s = .next { s with
      S := { s.S.apply i with phase := s.S.phase.succ }
      obs := { s.obs with
        trace := .done s.S.phase (encode i) :: s.obs.trace
        hazard := s.obs.hazard || s.S.breaks i } } := by
  have hs : setter i = true := by cases i <;> first | rfl | simp_all [busFree]
  cases i <;> simp only [busFree, setter, Bool.false_eq_true] at hi <;>
    simp only [exec, execTwDisable, execTwEnable, execTwRoute, execMuxDisable, execMuxEnable, execMuxSelect, execDecDisable,
      execDecEnable, execDecAddr, execWaitDebounce, execWaitSettle, execSetActive] <;>
    rw [afterMicro_setter (hi := hs), if_pos hn]
  all_goals first
    | (rename_i m n; cases m <;> rfl)
    | (rename_i m; cases m <;> simp [Selector.apply, Selector.breaks, record, setPhase, setMuxEn])
    | rfl
    | (simp [Selector.apply, Selector.breaks, record, setPhase, setTwEn, setDecEn])

/-- With the core to move, a step at a label that names a setter is that setter. -/
theorem step_setter (s : State) {i : Instr} (hm : s.coreMoves) (hi : busFree i = true) (hn : s.nextMicro = some i) :
    step s = .next { s with
      S := { s.S.apply i with phase := s.S.phase.succ }
      obs := { s.obs with
        trace := .done s.S.phase (encode i) :: s.obs.trace
        hazard := s.obs.hazard || s.S.breaks i } } := by
  rw [← exec_setter s hi hn]
  simp [step, hm.1, coreMove, hm.2, hn]

/-- The same with the next state named, so that each step of a run can be put into a short form. -/
theorem step_setter_eq (s : State) (i : Instr) (t : State) (hm : s.coreMoves) (hn : s.nextMicro = some i) (hi : busFree i = true)
    (ht : ({ s with
      S := { s.S.apply i with phase := s.S.phase.succ }
      obs := { s.obs with
        trace := .done s.S.phase (encode i) :: s.obs.trace
        hazard := s.obs.hazard || s.S.breaks i } } : State) = t) : step s = .next t := by
  rw [← ht]; exact step_setter s hm hi hn

/-- A run of any machine, one step at a time. -/
theorem run_of_step (M : Host.Core) (k : Nat) {s t : M.State} (h : M.step s = .next t) : M.run (k + 1) s = M.run k t := by
  simp [Host.Core.run, h]

/-- A run of the machine, one step at a time. -/
theorem run_step {s t : State} {o : Host.Outcome State Fault Refusal} (k : Nat) (hs : step s = .next t)
    (hr : Host.Core.run Sys2Proof.core k t = o) : Host.Core.run Sys2Proof.core (k + 1) s = o :=
  (run_of_step Sys2Proof.core k hs).trans hr

end State

end Sys2Proof.Machine
end

