-- ==== Sys2Proof/Tests/Slice0.lean ====
section
/-! SUPPORT. Tests: ill-formed terms are refused, words written out from the spec decode to what they stand for, one step of each
operation against the spec's derived vectors (spec/95_test_vectors.md), and for every statement with hypotheses a state and
operands that meet them. Expected values are the spec's own; none is this model's answer. -/

namespace Sys2Proof.Tests

open Sys2Proof Sys2Proof.Machine

/-! ### Well-formedness -/

theorem test_select_too_high : (Instr.select 128).wf = false := by decide
theorem test_select_too_low : (Instr.select (-129)).wf = false := by decide
theorem test_select_bounds : (Instr.select 127).wf = true ∧ (Instr.select (-128)).wf = true := by decide

/-- R34: a descriptor at another port's place. -/
theorem test_table_index : ¬ ({ PortTable.t0 with p3 := { PortTable.t0.p3 with index := 4 } } : PortTable).wf := by decide
/-- R34: two ports with one input bit. -/
theorem test_table_inputBit : ¬ ({ PortTable.t0 with p3 := { PortTable.t0.p3 with inputBit := 7 } } : PortTable).wf := by decide
/-- R34: two ports with one output bit. -/
theorem test_table_outputBit : ¬ ({ PortTable.t0 with p3 := { PortTable.t0.p3 with outputBit := 7 } } : PortTable).wf := by decide
/-- R36 is not part of R34: two ports with one route are well formed and not distinct. -/
theorem test_table_shared_route :
    ({ PortTable.t0 with p3 := { PortTable.t0.p3 with muxSelect := 2 } } : PortTable).wf ∧
      ¬ ({ PortTable.t0 with p3 := { PortTable.t0.p3 with muxSelect := 2 } } : PortTable).routeDistinct := by decide
theorem test_delay_positive : ¬ ({ Params.default with tSettle := 0 } : Params).wf := by decide
theorem test_default_wf : Params.default.wf ∧ PortTable.t0.routeDistinct := by decide

/-! ### Decoding: the words of V-ENC-1, V-ENC-2 and V-ENC-3 -/

/-- An operation the decoder gives. -/
abbrev reads (w : Word16) (i : Instr) : Prop := (match decode w with | .ok j => decide (j = i) | .error _ => false) = true

/-- A word the decoder rejects, by the reason. -/
abbrev rejects (w : Word16) (e : DecodeError) : Prop := (match decode w with | .ok _ => false | .error f => decide (f = e)) = true

theorem test_decode_select :
    reads 0x0100 (.select 0) ∧ reads 0x0107 (.select 7) ∧ reads 0x0108 (.select 8) ∧ reads 0x017F (.select 127) ∧
      reads 0x0180 (.select (-128)) ∧ reads 0x01FF (.select (-1)) := by decide
theorem test_decode_public :
    reads 0x0200 .disconnect ∧ reads 0x0300 .status ∧ reads 0x0400 .irq ∧ reads 0x0500 .reset ∧ reads 0x0600 .halt := by decide
theorem test_decode_two_way :
    reads 0x1000 .twDisable ∧ reads 0x1100 .twEnable ∧ reads 0x1200 (.twRoute .first) ∧ reads 0x1201 (.twRoute .second) := by
  decide
theorem test_decode_four_way :
    reads 0x2000 (.muxDisable .first) ∧ reads 0x2010 (.muxDisable .second) ∧ reads 0x2100 (.muxEnable .first) ∧
      reads 0x2110 (.muxEnable .second) ∧ reads 0x2200 (.muxSelect .first 0) ∧ reads 0x2203 (.muxSelect .first 3) ∧
      reads 0x2212 (.muxSelect .second 2) := by decide
theorem test_decode_decoder :
    reads 0x3000 .decDisable ∧ reads 0x3100 .decEnable ∧ reads 0x3200 (.decAddr 0) ∧ reads 0x3207 (.decAddr 7) := by decide
theorem test_decode_expander : reads 0x4000 .expInit ∧ reads 0x4100 .expRead ∧ reads 0x42EF (.expWrite 0xEF) := by decide
theorem test_decode_internal :
    reads 0x5000 .waitDebounce ∧ reads 0x5100 .waitSettle ∧ reads 0x6005 (.setActive (some 5)) ∧ reads 0x6008 (.setActive none) ∧
      reads 0x617F (.setSample 0x7F) := by decide
theorem test_reserved_opcodes :
    rejects 0x0000 .reservedOpcode ∧ rejects 0x0700 .reservedOpcode ∧ rejects 0xFFFF .reservedOpcode := by decide
theorem test_reserved_arguments :
    rejects 0x0201 .reservedArgument ∧ rejects 0x0301 .reservedArgument ∧ rejects 0x0480 .reservedArgument ∧
      rejects 0x1202 .reservedArgument ∧ rejects 0x2020 .reservedArgument ∧ rejects 0x2204 .reservedArgument ∧
      rejects 0x3208 .reservedArgument ∧ rejects 0x6010 .reservedArgument ∧ rejects 0x6009 .reservedActiveCode := by decide
theorem test_reserved_match_no_row :
    reservedWord 0x0700 = true ∧ reservedWord 0x6009 = true ∧ reservedWord 0x3208 = true ∧ reservedWord 0x6008 = false := by decide
theorem test_table_word : decodeTableWord 16 0x2212 = some (.muxSelect .second 2) := by decide
theorem test_truncated : (match decodeBytes [0x05#8] with | .error e => decide (e = .truncated) | .ok _ => false) = true := by decide

/-- The written forms of V-ENC-1 and V-ENC-2 (R100). -/
theorem test_written :
    (Instr.select (-128)).written = "SELECT -128".toList ∧ (Instr.muxSelect .second 2).written = "MUX_SELECT SECOND, 2".toList ∧
      (Instr.expWrite 0xEF).written = "EXP_WRITE 0xEF".toList ∧ (Instr.setActive none).written = "SET_ACTIVE NONE".toList ∧
      Instr.halt.written = "HALT".toList := by decide

/-- R98's numbers, and R101: the console's `help` calls nothing. -/
theorem test_codes_and_console :
    [RespCode.ok, .eBusRead, .eBusWrite, .eBusInit, .eMalformed, .eHalted].map RespCode.number = [0, 1, 2, 3, 4, 5] ∧
      ConsoleCommand.help.operation = none ∧ (ConsoleCommand.select 8).operation = some (.select 8) := by decide

/-! ### Data: the second table `T1` and the values of V-ENC-5, V-LED-1 and V-IRQ-7 -/

/-- The spec's own test table (spec/95_test_vectors.md). -/
def t1 : PortTable where
  p0 := ⟨0, 2, 4, .first, 0, .second, 0⟩
  p1 := ⟨1, 5, 0, .second, 0, .first, 3⟩
  p2 := ⟨2, 0, 6, .first, 1, .second, 6⟩
  p3 := ⟨3, 7, 2, .second, 1, .first, 1⟩
  p4 := ⟨4, 1, 7, .first, 2, .second, 4⟩
  p5 := ⟨5, 6, 1, .second, 2, .first, 7⟩
  p6 := ⟨6, 3, 5, .first, 3, .second, 2⟩
  p7 := ⟨7, 4, 3, .second, 3, .first, 5⟩

theorem test_t1 : t1.wf ∧ t1.routeDistinct := by decide
theorem test_t1_packed :
    ports.map (fun p => (t1.get p).pack) =
      [0x0A08#16, 0x3443#16, 0x431E#16, 0x7D51#16, 0x87AC#16, 0xB8E7#16, 0xCEBA#16, 0xF1F5#16] := by decide
theorem test_t1_leds :
    ports.map (fun p => ledByte t1 (some p)) = [0xEF#8, 0xFE#8, 0xBF#8, 0xFB#8, 0x7F#8, 0xFD#8, 0xDF#8, 0xF7#8] := by decide
/-- V-IRQ-7: bits 7 and 2 rose; the least port wins, not the highest bit. -/
theorem test_priority_permuted : risingBits 0x7B 0xFF = 0x84#8 ∧ prio t1 0x84 = some 0 ∧ prio PortTable.t0 0x84 = some 0 := by decide
/-- E6 and V-IRQ-13. -/
theorem test_priority_others : prio t1 0xC0 = some 3 ∧ prio t1 0x01 = some 2 ∧ prio PortTable.t0 0x24 = some 2 := by decide
/-- V-IRQ-5. -/
theorem test_edges : changedBits 0xBF 0x7F = 0xC0#8 ∧ risingBits 0xBF 0x7F = 0x40#8 := by decide

/-! ### States -/

/-- The start state of the vectors V-DEV: port 3 connected under `T0`. -/
def onThree : State :=
  { State.reset with
    S := { State.reset.S with activePort := some 3, tw := ⟨true, .first⟩, mux0 := ⟨true, 3⟩, mux1 := ⟨false, 2⟩, dec := ⟨true, 3⟩
                              led := 0xEF#8 } }

/-- `s` at the label `l`. -/
def atLabel (l : Phase) (s : State) : State := { s with S.phase := l }

/-- `s` with the words `ws` waiting. -/
def waiting (ws : List Word16) (s : State) : State := { s with env.requests := ws }

/-- `s` with the next bus answers `l`. -/
def bus (l : List BusAnswer) (s : State) : State := { s with env.busScript := l }

/-- `s` with the next read answering the byte `b`. -/
def sees (b : Byte) (s : State) : State := { s with env.readScript := [.ok b none] }

/-- `s` with the next read failing. -/
def blind (s : State) : State := { s with env.readScript := [.busfail] }

/-- `s` halted. -/
def halted (s : State) : State := { s with S.halted := true }

/-- `s` with the handler, HALT or a command running. -/
def runBy (c : Ctx) (s : State) : State := { s with S.ctx := c }

/-- `s` with the sample `b` stored. -/
def sampled (b : Byte) (s : State) : State := { s with S.lastSample := b }

/-- `s` with the environment's move `e` next. -/
def moved (e : EnvEvent) (s : State) : State := { s with env.turns := [.env e] }

/-- The outcome is a next state of which `f` holds. -/
def ends (o : Host.Outcome State Fault Refusal) (f : State → Bool) : Bool :=
  match o with
  | .next t => f t
  | _ => false

/-- R97: the physical level of an enable line, both polarities. -/
theorem test_enable_levels :
    ({ onThree with par.enPol := ⟨true, false, true, false⟩ } : State).enableLevels = [true, false, false, false] := by decide

/-! ### One step: micro-operations (V-DEV, V-EXP) -/

theorem test_tw_disable : ends (exec .twDisable onThree) (fun t => decide (t.S = { onThree.S with tw := ⟨false, .first⟩ })) := by
  decide
theorem test_tw_enable : ends (exec .twEnable onThree) (fun t => decide (t.S = onThree.S)) := by decide
theorem test_tw_route :
    ends (exec (.twRoute .second) onThree) (fun t => decide (t.S = { onThree.S with tw := ⟨true, .second⟩ }) && t.obs.hazard) := by
  decide
theorem test_mux_disable :
    ends (exec (.muxDisable .first) onThree) (fun t => decide (t.S = { onThree.S with mux0 := ⟨false, 3⟩ })) := by decide
theorem test_mux_enable :
    ends (exec (.muxEnable .second) onThree) (fun t => decide (t.S = { onThree.S with mux1 := ⟨true, 2⟩ })) := by decide
theorem test_mux_select :
    ends (exec (.muxSelect .second 1) onThree)
      (fun t => decide (t.S = { onThree.S with mux1 := ⟨false, 1⟩ }) && !t.obs.hazard) := by decide
theorem test_mux_select_enabled :
    ends (exec (.muxSelect .first 0) onThree)
      (fun t => decide (t.S = { onThree.S with mux0 := ⟨true, 0⟩ }) && t.obs.hazard) := by decide
theorem test_dec_disable :
    ends (exec .decDisable onThree) (fun t => decide (t.S = { onThree.S with dec := ⟨false, 3⟩ })) := by decide
theorem test_dec_enable : ends (exec .decEnable onThree) (fun t => decide (t.S = onThree.S)) := by decide
theorem test_dec_addr :
    ends (exec (.decAddr 6) onThree) (fun t => decide (t.S = { onThree.S with dec := ⟨true, 6⟩ }) && t.obs.hazard) := by decide
theorem test_wait_debounce : ends (exec .waitDebounce onThree) (fun t => decide (t.S = onThree.S)) := by decide
theorem test_wait_settle :
    ends (exec .waitSettle (atLabel .c10 onThree)) (fun t => decide (t.S = { onThree.S with phase := .c11 })) := by decide
theorem test_set_active :
    ends (exec (.setActive none) onThree) (fun t => decide (t.S = { onThree.S with activePort := none })) ∧
      ends (exec (.setActive (some 5)) onThree) (fun t => decide (t.S = { onThree.S with activePort := some 5 })) := by decide
theorem test_set_sample :
    ends (exec (.setSample 0x00) onThree) (fun t => decide (t.S = { onThree.S with lastSample := 0x00#8 })) := by decide
/-- V-EXP-1. -/
theorem test_exp_init :
    ends (exec .expInit (bus [.ok] onThree)) (fun t => decide (t.S.led = 0xFF#8 ∧ t.S.activePort = some 3)) := by decide
/-- V-EXP-2. -/
theorem test_exp_init_fails :
    ends (exec .expInit (bus [.busfail] onThree))
      (fun t => t.S.faultSeen && decide (t.obs.responses = [⟨.caller, .eBusInit, none⟩])) := by decide
/-- V-EXP-3. -/
theorem test_exp_read :
    ends (exec .expRead (sees 0x7F { onThree with S.intLatch := true }))
      (fun t => decide (t.S.smp = 0x7F#8 ∧ t.S.intLatch = false)) := by decide
/-- V-EXP-4. -/
theorem test_exp_read_fails :
    ends (exec .expRead (blind { onThree with S.smp := 0x55#8 }))
      (fun t => t.S.faultSeen && decide (t.S.smp = 0x55#8 ∧ t.obs.responses = [⟨.caller, .eBusRead, none⟩])) := by decide
/-- V-EXP-8. -/
theorem test_exp_write : ends (exec (.expWrite 0x00) (bus [.ok] onThree)) (fun t => decide (t.S.led = 0x00#8)) := by decide
/-- V-EXP-7. -/
theorem test_exp_write_fails :
    ends (exec (.expWrite 0xFF) (bus [.busfail] onThree))
      (fun t => t.S.faultSeen && decide (t.obs.responses = [⟨.caller, .eBusWrite, none⟩])) := by decide

/-! ### One step: public operations and the sequencer -/

/-- V-SEQ-1's dispatch: a valid other port is latched and the chain starts at C1. -/
theorem test_select :
    ends (step (waiting [0x0101] State.reset)) (fun t => decide (t.S = { State.reset.S with tgt := 1, phase := .c1 })) := by decide
/-- V-SEQ-5's dispatch. -/
theorem test_select_invalid : ends (step (waiting [0x0108] onThree)) (fun t => decide (t.S.phase = .d1)) := by decide
theorem test_disconnect : ends (step (waiting [0x0200] onThree)) (fun t => decide (t.S = { onThree.S with phase := .d1 })) := by decide
/-- V-ENC-4, port 3 under `T0`, with the stale `mux1.sel = 2` of this state: 0x3B8B and two in bits 5:4. -/
theorem test_status :
    ends (step (waiting [0x0300] onThree))
      (fun t => decide (t.S = onThree.S ∧ t.obs.responses = [⟨.caller, .ok, some 0x3BAB#16⟩])) := by decide
/-- V-STA-1. -/
theorem test_status_fresh :
    ends (step (waiting [0x0300] State.reset)) (fun t => decide (t.obs.responses = [⟨.caller, .ok, some 0x8000#16⟩])) := by decide
theorem test_irq :
    ends (step (waiting [0x0400] onThree)) (fun t => decide (t.S = { onThree.S with ctx := .irq, phase := .i1 })) := by decide
/-- V-IRQ-14. -/
theorem test_irq_halted :
    ends (step (waiting [0x0400] (halted onThree)))
      (fun t => decide (t.S = (halted onThree).S ∧ t.obs = onThree.obs ∧ t.env.requests = [])) := by decide
theorem test_reset :
    ends (step (waiting [0x0500] { halted onThree with S.faultSeen := true }))
      (fun t => decide (t.S = { onThree.S with halted := true, phase := .z1 })) := by
  decide
theorem test_halt :
    ends (step (waiting [0x0600] onThree)) (fun t => decide (t.S = { onThree.S with ctx := .halt, phase := .d1 })) := by decide
/-- V-HLT-3. -/
theorem test_select_halted :
    ends (step (waiting [0x0101] (halted onThree)))
      (fun t => decide (t.S = (halted onThree).S ∧ t.obs.responses = [⟨.caller, .eHalted, none⟩])) := by decide
/-- V-ENC-3, and R96 for a micro-operation word. -/
theorem test_malformed :
    ends (step (waiting [0x0700] onThree))
        (fun t => decide (t.S = onThree.S ∧ t.obs.responses = [⟨.caller, .eMalformed, none⟩])) ∧
      ends (step (waiting [0x1000] onThree))
        (fun t => decide (t.S = onThree.S ∧ t.obs.responses = [⟨.caller, .eMalformed, none⟩])) := by decide
/-- V-IRQ-7: the handler's decision under `T1`. -/
theorem test_edge_decision :
    ends (step (atLabel .i2 (sampled 0x7B (sees 0xFF { State.reset with par.table := t1 }))))
      (fun t => decide (t.S.phase = .c1 ∧ t.S.tgt = 0)) := by decide
/-- V-IRQ-1 and V-IRQ-3: a press goes to I3, a spurious interrupt ends. -/
theorem test_press_and_spurious :
    ends (step (atLabel .i2 (sees 0x7F State.reset))) (fun t => decide (t.S.phase = .i3)) ∧
      ends (step (atLabel .i2 (sees 0xFF State.reset))) (fun t => decide (t.S = { State.reset.S with smp := 0xFF#8 })) := by decide
/-- V-HLT-2: the failed LED write of HALT is swallowed. -/
theorem test_halt_swallows :
    ends (step (atLabel .l1 (runBy .halt (bus [.busfail] State.reset))))
      (fun t => t.S.halted && t.S.faultSeen && decide (t.obs.responses = [⟨.caller, .ok, none⟩])) := by decide
/-- R56 and R57: the first change raises one IRQ, the second, while the latch is set, none. One merged with an IRQ that waits adds no word (R221). -/
theorem test_panel :
    ends (step (moved (.panel 0x7F (some 0)) State.reset))
        (fun t => t.S.intLatch && decide (t.env.requests = [0x0400#16])) ∧
      ends (step (moved (.panel 0x7F (some 0)) { State.reset with S.intLatch := true }))
        (fun t => t.S.intLatch && decide (t.env.requests = [])) ∧
      ends (step (moved (.panel 0x7F none) (waiting [0x0400] State.reset)))
        (fun t => t.S.intLatch && decide (t.env.requests = [0x0400#16])) := by decide
/-- R207, R253: what waits behind a RESET is refused, SELECT 1 and HALT here; the IRQ is dropped (R113), the second RESET waits on. -/
theorem test_reset_refuses_waiting :
    ends (step (waiting [0x0500, 0x0400, 0x0101, 0x0500, 0x0600] onThree))
      (fun t => decide (t.S.phase = .z1 ∧ t.env.requests = [0x0500#16] ∧
        t.obs.responses = [⟨.caller, .eHalted, none⟩, ⟨.caller, .eHalted, none⟩])) := by decide
/-- R57: a merged notification is not lost; with no IRQ waiting it is one. -/
theorem test_merged_notification :
    ends (step (moved (.panel 0x7F none) (waiting [0x0101] State.reset)))
        (fun t => t.S.intLatch && decide (t.env.requests = [0x0101#16, 0x0400#16])) ∧
      ends (exec .expRead (sees 0x7F { onThree with S.intLatch := true })) (fun t => decide (t.env.requests = [0x0400#16])) := by
  decide
/-- R251: after a power failure the core is halted. -/
theorem test_power : ends (step (moved .powerCycle onThree)) (fun t => t.S.halted && decide (t.S.phase = .idle)) := by decide
/-- R34, U12: an edge on a bit no port has, possible under an ill-formed table alone, is refused. -/
theorem test_ill_formed_table :
    (match step (atLabel .i2 (sampled 0xFE (sees 0xFF
        { State.reset with par.table := { PortTable.t0 with p7 := { PortTable.t0.p7 with inputBit := 1 } } }))) with
      | .refused r => decide (r = .portTableIllFormed)
      | _ => false) = true := by decide
theorem test_fetch_word :
    ends (step (State.reset.withFetchWord 16 0x0103)) (fun t => decide (t.S.phase = .c1 ∧ t.S.tgt = 3)) ∧
      ends (step (State.reset.withFetchWord 16 0x3206)) (fun t => decide (t.S.dec = ⟨false, 6⟩)) := by decide

/-! ### Witnesses: for every statement with hypotheses, a state and operands that meet them together -/

/-- The invariant at IDLE with port 3 connected, whatever waits and whatever the bus will answer. -/
theorem inv_onThree (e : Env) (h : e.bare = []) : ({ onThree with env := e } : State).inv :=
  ⟨(by decide : PortTable.t0.wf), h, fun _ => (by decide : onThree.S.onRoute PortTable.t0 3),
    (by decide : onThree.S.ctxInv), (by decide : onThree.S.haltInv), (by decide : onThree.S.lampInv PortTable.t0), nofun⟩

/-- The invariant in the handler with port 3 connected. -/
theorem inv_handler : (atLabel .i1 (runBy .irq onThree)).inv :=
  ⟨by decide, rfl, (by decide : onThree.S.onRoute PortTable.t0 3), by decide, by decide, by decide, nofun⟩

/-- The invariant at C5, nothing enabled. -/
theorem inv_c5 : (atLabel .c5 State.reset).inv :=
  ⟨by decide, rfl, (by decide : State.reset.S.allOff), by decide, by decide, by decide, nofun⟩

/-- The routing sequence of port 0 at C9 to C11. -/
def routing (l : Phase) (power : Bool) : State :=
  { atLabel l State.reset with S.tw := ⟨false, .first⟩, S.mux0 := ⟨true, 0⟩, S.dec := ⟨power, 0⟩ }

theorem inv_c9 : (routing .c9 false).inv :=
  ⟨by decide, rfl, (by decide : (routing .c9 false).S.routeSet PortTable.t0 0 ∧ _), by decide, by decide, by decide, nofun⟩
theorem inv_c11 : (routing .c11 true).inv :=
  ⟨by decide, rfl, (by decide : (routing .c11 true).S.routeSet PortTable.t0 0 ∧ _), by decide, by decide, by decide, nofun⟩

/-- The invariant during RESET, with nothing but RESETs waiting. -/
theorem inv_z1 (e : Env) (h : e.bare = []) (hr : ∀ w ∈ e.requests, w = 0x0500#16) :
    ({ atLabel .z1 (halted State.reset) with env := e } : State).inv :=
  ⟨(by decide : PortTable.t0.wf), h, trivial, (by decide : (atLabel .z1 (halted State.reset)).S.ctxInv),
    (by decide : (atLabel .z1 (halted State.reset)).S.haltInv), (by decide : (atLabel .z1 (halted State.reset)).S.lampInv PortTable.t0),
    fun _ => hr⟩
theorem inv_z11 (e : Env) (h : e.bare = []) (hr : ∀ w ∈ e.requests, w = 0x0500#16) :
    ({ atLabel .z11 (halted State.reset) with env := e } : State).inv :=
  ⟨(by decide : PortTable.t0.wf), h, (by decide : State.reset.S.allOff ∧ State.reset.S.activePort = none),
    (by decide : (atLabel .z11 (halted State.reset)).S.ctxInv), (by decide : (atLabel .z11 (halted State.reset)).S.haltInv),
    (by decide : (atLabel .z11 (halted State.reset)).S.lampInv PortTable.t0), fun _ => hr⟩

theorem witness_DecodeInvertsEncode : (Instr.select (-128)).wf = true ∧ (Instr.muxSelect .second 3).wf = true := by decide
theorem witness_EncodeInvertsDecode : decode 0x017F#16 = .ok (.select 127) ∧ decode 0x6008#16 = .ok (.setActive none) := by
  constructor <;> rfl
theorem witness_OpcodeMapIsDecoded : decode 0x2213#16 = .ok (.muxSelect .second 3) := rfl
theorem witness_BytesCarryOpcodeFirst :
    decode 0x0500#16 = .ok .reset ∧ decode 0x0700#16 = .error .reservedOpcode := by constructor <;> rfl
theorem witness_SetSampleWritesLastSample :
    onThree.nextMicro ≠ some (.setSample 0x00) ∧ (atLabel .i3 onThree).S.phase = .i3 ∧ (atLabel .z12 (halted onThree)).S.phase = .z12 ∧
      0x00#8 = onThree.S.smp := by decide
theorem witness_ExpInitSetsIdleByte :
    (bus [.ok] (atLabel .z1 onThree)).busAnswer = .ok ∧ (bus [.ok] (atLabel .z1 onThree)).nextMicro = some .expInit := by decide
/-- The three kinds of notification, one with an IRQ waiting and one without, and a read answered by the panel's level. -/
theorem witness_ExpReadLatchesSample :
    (sees 0x7F (atLabel .z11 onThree)).readByte = some 0x7F ∧
      (sees 0x7F (atLabel .i2 onThree)).readByte = some 0x7F ∧ (sees 0x7F (atLabel .i2 onThree)).par.table.wf ∧
      (sees 0x7F { onThree with S.intLatch := true }).S.intLatch = true ∧ onThree.S.halted = false ∧
      (sees 0x7F onThree).readNotice = none ∧ 0x0400#16 ∉ (sees 0x7F onThree).env.requests ∧
      0x0400#16 ∈ (sees 0x7F (waiting [0x0400] onThree)).env.requests ∧
      ({ onThree with env.readScript := [.ok 0x7F (some 0)] } : State).readNotice = some 0 ∧
      ({ onThree with env.readScript := [.level none] } : State).readAnswer = .level none ∧
      ({ onThree with env.readScript := [.level none] } : State).readByte = some onThree.env.panel := by decide
theorem witness_ExpWriteReplacesByte :
    (bus [.ok] onThree).busAnswer = .ok ∧ onThree.S.phase ≠ .l1 ∧ (bus [.ok] (atLabel .l1 (runBy .halt onThree))).busAnswer = .ok := by
  decide
theorem witness_BusFailureAbandonsOperation :
    ((bus [.busfail] onThree).busAnswer = .busfail ∧ onThree.S.phase ≠ .z1) ∧
      ((blind (atLabel .i2 onThree)).readByte = none ∧ (atLabel .i2 onThree).S.phase ≠ .z11) ∧
      ((bus [.busfail] (atLabel .l1 onThree)).busAnswer = .busfail ∧ ¬ ((atLabel .l1 onThree).S.phase = .l1 ∧ onThree.S.ctx = .halt)) := by
  decide
theorem witness_SelectDispatch :
    onThree.S.phase = .idle ∧ onThree.S.halted = false ∧ ((-1 : Int) < 0 ∧ (7 : Int) < 8) ∧
      ((3 : Int) = (3 : Port).val ∧ onThree.S.activePort = some 3) ∧ ((0 : Int) = (0 : Port).val ∧ onThree.S.activePort ≠ some 0) ∧
      ((7 : Int) = (7 : Port).val ∧ onThree.S.activePort ≠ some 7) := by decide
/-- With words of every kind waiting behind a RESET too. -/
theorem witness_OperationsStart :
    onThree.S.phase = .idle ∧ onThree.S.halted = false ∧ (halted onThree).S.phase = .idle ∧
      answersRefusing [0x0500, 0x0400, 0x0101, 0x0700, 0x1000]
        [⟨.caller, .eMalformed, none⟩, ⟨.caller, .eHalted, none⟩, ⟨.caller, .eHalted, none⟩] :=
  ⟨rfl, rfl, rfl, rfl, by
    intro p hp
    have hl : answered [0x0500, 0x0400, 0x0101, 0x0700, 0x1000] = [0x0101#16, 0x0700#16, 0x1000#16] := by decide
    rw [hl] at hp
    simp only [List.reverse_cons, List.reverse_nil, List.nil_append, List.cons_append, List.zip_cons_cons, List.zip_nil_right,
      List.mem_cons, List.not_mem_nil, or_false] at hp
    obtain rfl | rfl | rfl := hp
    · exact ⟨rfl, rfl, .inl rfl⟩
    · exact ⟨rfl, rfl, .inl rfl⟩
    · exact ⟨rfl, rfl, .inr ⟨rfl, fun i hi => by cases (rfl : decode 0x1000#16 = .ok .twDisable).symm.trans hi; rfl⟩⟩⟩
theorem witness_StatusReports : onThree.S.phase = .idle ∧ onThree.S.halted = false ∧ onThree.inv :=
  ⟨rfl, rfl, inv_onThree onThree.env rfl⟩
theorem witness_HaltedCoreRefuses : (halted onThree).S.halted = true ∧ (halted onThree).S.phase = .idle := by decide
theorem witness_BusyCoreLetsRequestsWait :
    (atLabel .c5 onThree).S.phase ≠ .idle ∧ Instr.halt.isPublic = true ∧ (atLabel .c5 onThree).S.halted = false ∧
      (atLabel .z5 (halted onThree)).S.phase ≠ .idle ∧ Instr.reset.isPublic = true ∧ Instr.halt.wf = true := by decide
theorem witness_StepRunsWaitingRequest :
    (waiting [0x0103] onThree).coreMoves ∧ onThree.S.phase = .idle ∧ (waiting [0x0103] onThree).env.requests = 0x0103#16 :: [] ∧
      decode 0x0103#16 = .ok (.select 3) ∧ (Instr.select 3).isPublic = true := ⟨by decide, rfl, rfl, rfl, rfl⟩
theorem witness_StepRunsPhaseMicroOperation :
    (atLabel .c5 onThree).coreMoves ∧ (atLabel .c5 onThree).nextMicro = some (.decAddr 0) := by decide
theorem witness_StepRunsOutsideMicroOperation :
    ({ onThree with env.bare := [0x3206#16] } : State).env.bare = 0x3206#16 :: [] ∧ onThree.env.turns = [] ∧
      decode 0x3206#16 = .ok (.decAddr 6) ∧ (Instr.decAddr 6).isPublic = false := ⟨rfl, rfl, rfl, rfl⟩
theorem witness_StepRunsPlacedWord :
    decodeTableWord 16 0x0103 = some (.select 3) ∧ (Instr.select 3).isPublic = true ∧
      decodeTableWord 16 0x3206 = some (.decAddr 6) ∧ (Instr.decAddr 6).isPublic = false := by decide
theorem witness_MalformedWordsChangeNothing :
    (waiting [0x0700] onThree).coreMoves ∧ onThree.S.phase = .idle ∧ onThree.S.halted = false ∧
      (halted (waiting [0x0700] onThree)).coreMoves ∧ (halted (waiting [0x0700] onThree)).S.halted = true ∧
      (waiting [0x0700] onThree).env.requests = 0x0700#16 :: [] ∧ reservedWord 0x0700#16 = true ∧
      decode 0x1000#16 = .ok .twDisable ∧ Instr.twDisable.isPublic = false :=
  ⟨by decide, rfl, rfl, by decide, rfl, rfl, by decide, rfl, rfl⟩
theorem witness_PanelChangeNotifies :
    (moved (.panel 0x7F (some 0)) onThree).env.turns = .env (.panel 0x7F (some 0)) :: [] ∧ 0x7F#8 ≠ onThree.env.panel ∧
      onThree.S.intLatch = false ∧ onThree.S.halted = false ∧
      (moved (.panel 0x7F none) onThree).env.turns = .env (.panel 0x7F none) :: [] ∧ 0x0400#16 ∉ onThree.env.requests ∧
      0x0400#16 ∈ (moved (.panel 0x7F none) (waiting [0x0400] onThree)).env.requests := by decide
theorem witness_RequestsReachTheCore :
    (moved (.request 0x0101 0) onThree).env.turns = .env (.request 0x0101 0) :: [] ∧ onThree.S.halted = false ∧
      (halted onThree).S.halted = true ∧ decode 0x0500#16 = .ok .reset ∧ decode 0x0400#16 = .ok .irq ∧
      decode 0x0101#16 = .ok (.select 1) ∧ (Instr.select 1).isPublic = true ∧ reservedWord 0x0700#16 = true ∧
      decode 0x1000#16 = .ok .twDisable ∧ Instr.twDisable.isPublic = false :=
  ⟨rfl, rfl, rfl, rfl, rfl, rfl, rfl, by decide, rfl, rfl⟩
theorem witness_PowerFailureHaltsTheCore :
    (moved .powerCycle (atLabel .c9 onThree)).env.turns = .env .powerCycle :: [] := rfl
theorem witness_ConnectSequence : (atLabel .c1 onThree).coreMoves ∧ (atLabel .c1 onThree).S.phase = .c1 := by decide
theorem witness_DisconnectSequence : (atLabel .d1 onThree).coreMoves ∧ (atLabel .d1 onThree).S.phase = .d1 := by decide
/-- Each of the six clauses: the three contexts, and both answers of the bus. -/
theorem witness_AfterTheRefresh :
    (∀ a ∈ [BusAnswer.ok, .busfail], (bus [a] (atLabel .l1 onThree)).coreMoves ∧ (bus [a] (atLabel .l1 onThree)).busAnswer = a ∧
      ∀ c ∈ [Ctx.cmd, .irq, .halt], (runBy c (bus [a] (atLabel .l1 onThree))).S.ctx = c ∧
        (runBy c (bus [a] (atLabel .l1 onThree))).S.phase = .l1) := by decide
/-- A sample without change, a press, the release of port 0 alone and of port 7 alone. -/
theorem witness_EdgeDecision :
    (sees 0xFF (atLabel .i2 onThree)).coreMoves ∧ onThree.par.table.wf ∧ (sees 0xFF (atLabel .i2 onThree)).readByte = some 0xFF ∧
      onThree.S.lastSample ^^^ 0xFF#8 = 0#8 ∧
      (onThree.S.lastSample ^^^ 0x7F#8 ≠ 0#8 ∧ ~~~onThree.S.lastSample &&& 0x7F#8 = 0#8) ∧
      (~~~(sampled 0x7F onThree).S.lastSample &&& 0xFF#8).getLsbD (onThree.par.table.get 0).inputBit = true ∧
      (~~~(sampled 0xFE onThree).S.lastSample &&& 0xFF#8).getLsbD (onThree.par.table.get 7).inputBit = true ∧
      ∀ q < (7 : Port), (~~~(sampled 0xFE onThree).S.lastSample &&& 0xFF#8).getLsbD (onThree.par.table.get q).inputBit = false := by
  decide
theorem witness_PriorityIsLeastReleasedPort : t1.wf ∧ (0x84#8 : Byte) ≠ 0#8 := by decide
theorem witness_LedByteShowsActivePort : t1.wf ∧ PortTable.t0.wf := by decide
theorem witness_SelectConnectsPort :
    let s := bus [.ok] (waiting [0x0107] onThree)
    s.inv ∧ s.S.halted = false ∧ s.aboutToAccept (.select (7 : Port).val) [] ∧ s.S.activePort ≠ some 7 ∧ s.busAnswer = .ok :=
  ⟨inv_onThree _ rfl, rfl, ⟨by decide, rfl, 0x0107#16, rfl, rfl⟩, by decide, rfl⟩
/-- DISCONNECT, and SELECT of the two indices next to the valid ones. -/
theorem witness_DisconnectEnergisesNothing :
    onThree.S.halted = false ∧ (bus [.ok] (waiting [0x0200] onThree)).aboutToAccept .disconnect [] ∧
      (bus [.ok] (waiting [0x0108] onThree)).aboutToAccept (.select 8) [] ∧
      (bus [.ok] (waiting [0x01FF] onThree)).aboutToAccept (.select (-1)) [] ∧
      (bus [.ok] (waiting [0x0108] onThree)).busAnswer = .ok :=
  ⟨rfl, ⟨by decide, rfl, 0x0200#16, rfl, rfl⟩, ⟨by decide, rfl, 0x0108#16, rfl, rfl⟩, ⟨by decide, rfl, 0x01FF#16, rfl, rfl⟩, rfl⟩
theorem witness_SelectActivePortIsNoOp :
    let s := bus [.ok] (waiting [0x0103] onThree)
    s.S.halted = false ∧ s.aboutToAccept (.select (3 : Port).val) [] ∧ s.S.activePort = some 3 ∧ s.busAnswer = .ok ∧
      s.S.ledInv s.par.table :=
  ⟨rfl, ⟨by decide, rfl, 0x0103#16, rfl, rfl⟩, rfl, rfl, by decide⟩
theorem witness_DisconnectIsIdempotent :
    let s := bus [.ok] (waiting [0x0200] State.reset)
    s.S.halted = false ∧ s.aboutToAccept .disconnect [] ∧ s.busAnswer = .ok ∧ s.S.activePort = none ∧
      s.S.routeInv s.par.table ∧ s.S.led = 0xFF#8 ∧
      (bus [.ok, .ok] (waiting [0x0200, 0x0200] onThree)).aboutToAccept .disconnect [encode .disconnect] ∧
      (bus [.ok, .ok] (waiting [0x0200, 0x0200] onThree)).useBus.busAnswer = .ok :=
  ⟨rfl, ⟨by decide, rfl, 0x0200#16, rfl, rfl⟩, rfl, rfl, (by decide : State.reset.S.allOff), rfl,
    ⟨by decide, rfl, 0x0200#16, rfl, rfl⟩, rfl⟩
/-- The ports at both ends of the priority: port 7 alone, and port 0 among all eight. -/
theorem witness_ReleaseSelectsLeastPort :
    (∀ l ∈ [0xFE#8, 0x00#8], (sampled l (sees 0xFF (bus [.ok] (waiting [0x0400] onThree)))).coreMoves ∧
      (sampled l (sees 0xFF (bus [.ok] (waiting [0x0400] onThree)))).readByte = some 0xFF ∧
      (sampled l (sees 0xFF (bus [.ok] (waiting [0x0400] onThree)))).useRead.busAnswer = .ok) ∧
    (sampled 0xFE (sees 0xFF (bus [.ok] (waiting [0x0400] onThree)))).aboutToAccept .irq [] ∧
    (~~~0xFE#8 &&& 0xFF#8).getLsbD (onThree.par.table.get 7).inputBit = true ∧
    (∀ q < (7 : Port), (~~~0xFE#8 &&& 0xFF#8).getLsbD (onThree.par.table.get q).inputBit = false) ∧
    (~~~0x00#8 &&& 0xFF#8).getLsbD (onThree.par.table.get 0).inputBit = true ∧
    onThree.S.activePort ≠ some 0 ∧ onThree.S.activePort ≠ some 7 ∧
    (sampled 0xFE (sees 0xFF (bus [.ok] (waiting [0x0400] onThree)))).inv :=
  ⟨by decide, ⟨by decide, rfl, 0x0400#16, rfl, rfl⟩, by decide, by decide, by decide, by decide, by decide,
    by decide, rfl, fun _ => (by decide : onThree.S.onRoute PortTable.t0 3), by decide, by decide, by decide, nofun⟩
theorem witness_InterruptsThatSelectNothing :
    onThree.S.halted = false ∧ (sees 0x7F (waiting [0x0400] onThree)).aboutToAccept .irq [] ∧ onThree.par.table.wf ∧
      (sees 0x7F (waiting [0x0400] onThree)).readByte = some 0x7F ∧ onThree.S.lastSample ^^^ 0xFF#8 = 0#8 ∧
      onThree.S.lastSample ^^^ 0x7F#8 ≠ 0#8 ∧ ~~~onThree.S.lastSample &&& 0x7F#8 = 0#8 :=
  ⟨rfl, ⟨by decide, rfl, 0x0400#16, rfl, rfl⟩, by decide, by decide, by decide, by decide, by decide⟩
/-- From the power-on state too, with a command and an interrupt waiting behind the RESET. -/
theorem witness_ResetReachesFreshState :
    let s := sees 0xA5 (bus [.ok] (waiting [0x0500, 0x0101, 0x0400] onThree.losesAll))
    s.aboutToAccept .reset [0x0101, 0x0400] ∧
      ends (step s) (fun u => decide (u.busAnswer = .ok ∧ (u.useBus.useFree 1).readByte = some 0xA5)) :=
  ⟨⟨by decide, rfl, 0x0500#16, rfl, rfl⟩, by decide⟩
theorem witness_FailedResetStaysHalted :
    (bus [.busfail] (atLabel .z1 (halted State.reset))).inv ∧ (bus [.busfail] (atLabel .z1 (halted State.reset))).coreMoves ∧
      (bus [.busfail] (atLabel .z1 (halted State.reset))).busAnswer = .busfail ∧
      (blind (atLabel .z11 (halted State.reset))).inv ∧ (blind (atLabel .z11 (halted State.reset))).readByte = none :=
  ⟨inv_z1 (bus [.busfail] State.reset).env rfl nofun, by decide, rfl, inv_z11 (blind State.reset).env rfl nofun, rfl⟩
theorem witness_HaltDisconnectsWhateverTheBusDoes :
    onThree.S.halted = false ∧ ∀ a, (bus [a] (waiting [0x0600] onThree)).aboutToAccept .halt [] ∧
      (bus [a] (waiting [0x0600] onThree)).busAnswer = a :=
  ⟨rfl, fun _ => ⟨⟨⟨rfl, rfl⟩, rfl, 0x0600#16, rfl, rfl⟩, rfl⟩⟩
theorem witness_HandlerBusFailures :
    ((blind (atLabel .i2 onThree)).coreMoves ∧ (blind (atLabel .i2 onThree)).readByte = none) ∧
      ((bus [.busfail] (atLabel .l1 (runBy .irq onThree))).coreMoves ∧ (runBy .irq onThree).S.ctx = .irq ∧
        (bus [.busfail] (atLabel .l1 (runBy .irq onThree))).busAnswer = .busfail) := by decide
theorem witness_StepKeepsInv : ∃ t, (waiting [0x0101] onThree).inv ∧ step (waiting [0x0101] onThree) = .next t ∧ t.S.phase = .c1 :=
  ⟨_, inv_onThree _ rfl, rfl, rfl⟩
theorem witness_IdleStatesAreConsistent :
    ∃ t, (waiting [0x0300] onThree).inv ∧ step (waiting [0x0300] onThree) = .next t ∧ t.S.phase = .idle ∧ t.S.halted = false ∧
      t.S.faultSeen = false := ⟨_, inv_onThree _ rfl, rfl, rfl, rfl, rfl⟩
/-- The first and the last label of both clauses. -/
theorem witness_NothingConnectedWhileProgramming :
    (atLabel .c5 State.reset).inv ∧ (routing .c9 false).inv ∧ (routing .c11 true).inv := ⟨inv_c5, inv_c9, inv_c11⟩
theorem witness_StepOneOnlyDisconnects :
    ∃ t, (atLabel .c1 onThree).coreMoves ∧ step (atLabel .c1 onThree) = .next t ∧ t.S.pwr 3 ∧ onThree.S.connected onThree.par.table 3 :=
  ⟨_, by decide, rfl, by decide, by decide⟩
theorem witness_AtMostOnePortConnected :
    onThree.par.table.routeDistinct ∧ onThree.S.pwr 3 ∧ onThree.S.connected onThree.par.table 3 := by decide
theorem witness_PowerIsNeverHandedOver :
    ∃ t, onThree.inv ∧ step onThree = .next t ∧ t.S.halted = false ∧ onThree.S.pwr 3 ∧ t.S.pwr 3 :=
  ⟨_, inv_onThree _ rfl, rfl, rfl, by decide, by decide⟩
/-- A step that writes an address: C5. -/
theorem witness_SequencerBreaksNoPrecondition :
    ∃ t, (atLabel .c5 State.reset).inv ∧ step (atLabel .c5 State.reset) = .next t ∧ t.S.phase = .c6 := ⟨_, inv_c5, rfl, rfl⟩
theorem witness_OnlyBrokenPreconditionsAreMarked :
    ∃ t, exec (.decAddr 6) onThree = .next t ∧ t.obs.hazard = true ∧ onThree.obs.hazard = false := ⟨_, rfl, rfl, rfl⟩
/-- Operations of each kind outside the two failures left out, and for each clause about a change an operation that makes it: the label and
`tgt` by SELECT, `smp` and the latch by EXP_READ, `ctx` by IRQ, `faultSeen` by a failing EXP_WRITE and by RESET, `halted` by the end of
HALT and the end of RESET. -/
theorem witness_FieldsHaveOneWriter :
    (∃ t, exec (.muxEnable .second) onThree = .next t) ∧ onThree.S.phase ≠ .z1 ∧ onThree.S.phase ≠ .z11 ∧
      ends (exec (.select 7) onThree) (fun t => decide (t.S.phase ≠ onThree.S.phase ∧ t.S.tgt ≠ onThree.S.tgt)) ∧
      ends (exec .expRead (sees 0x7F { onThree with S.intLatch := true }))
        (fun t => decide (t.S.smp ≠ onThree.S.smp ∧ t.S.intLatch = false)) ∧
      ends (exec .irq onThree) (fun t => decide (t.S.ctx ≠ onThree.S.ctx)) ∧
      ends (exec (.expWrite 0x00) (bus [.busfail] onThree)) (fun t => t.S.faultSeen) ∧
      ends (exec .reset { onThree with S.faultSeen := true }) (fun t => !t.S.faultSeen) ∧
      ends (exec (.expWrite 0xFF) (bus [.busfail] (atLabel .l1 (runBy .halt onThree)))) (fun t => t.S.halted) ∧
      ends (exec (.setSample 0x00) (atLabel .z12 (halted onThree))) (fun t => !t.S.halted) :=
  ⟨⟨_, rfl⟩, by decide, by decide, by decide, by decide, by decide, by decide, by decide, by decide, by decide⟩
theorem witness_ParametersAreReadOnly : ∃ t, step onThree = .next t := ⟨_, rfl⟩
theorem witness_FaultSeenIsStickyUntilReset :
    ∃ t, (waiting [0x0500] { onThree with S.faultSeen := true }).coreMoves ∧
      step (waiting [0x0500] { onThree with S.faultSeen := true }) = .next t ∧ t.S.faultSeen = false :=
  ⟨_, by decide, rfl, rfl⟩
theorem witness_HandlerNeverDisconnects :
    ∃ t, (atLabel .i1 (runBy .irq onThree)).inv ∧ (atLabel .i1 (runBy .irq onThree)).coreMoves ∧
      (atLabel .i1 (runBy .irq onThree)).S.phase.isReset = false ∧ step (atLabel .i1 (runBy .irq onThree)) = .next t ∧
      onThree.S.activePort ≠ none := ⟨_, inv_handler, by decide, rfl, rfl, by decide⟩
theorem witness_EveryOperationEnds : (atLabel .i1 onThree).coreMoves ∧ onThree.par.table.wf := by decide

end Sys2Proof.Tests
end

section
/-! PROOFS. The invariant of the sequencer is kept by every step (R22, R155, R160, R174, R203): first the part of it that speaks of the
record alone, label by label, then each operation, each move of the environment, and the step. -/

namespace Sys2Proof.Machine

/-! ### The invariant of the record -/

/-- The part of `State.inv` that speaks of the record `S` alone. -/
structure Selector.consistent (S : Selector) (t : PortTable) : Prop where
  device : S.deviceInv t
  ctx : S.ctxInv
  halt : S.haltInv
  lamp : S.lampInv t

/-- What holds between two sequences of a core that is not halted: `RouteInv` (R22), and `LedInv` unless a bus failure happened (R174). -/
structure Selector.settled (S : Selector) (t : PortTable) : Prop where
  running : S.halted = false
  route : S.routeInv t
  led : S.faultSeen = false → S.ledInv t

/-- A label at which a sequence of a settled core begins, or the handler ends. -/
def Phase.startsSettled (l : Phase) : Bool := l ∈ [Phase.c1, .d1, .l1, .i1, .i3]

theorem Phase.isReset_of_startsSettled {l : Phase} (h : l.startsSettled = true) : l.isReset = false := by
  cases l <;> simp_all [Phase.startsSettled, Phase.isReset]

namespace Selector

variable {S : Selector} {t : PortTable}

/-- At IDLE the invariant says nothing but that a core that is not halted is settled. -/
theorem consistent_idle (hp : S.phase = .idle) (h : S.halted = false → S.settled t) : S.consistent t where
  device := by unfold deviceInv; rw [hp]; exact fun hh => (h hh).route
  ctx := by simp [ctxInv, hp, Phase.isHandler, Phase.isConnect, Phase.isDisconnect]
  halt := fun hne => absurd hp hne
  lamp := ⟨fun hf hh _ => (h hh).led hf, by simp [hp, Phase.isReset]⟩

/-- A halted core at IDLE satisfies the invariant, whatever its fields are (R32, R251). -/
theorem consistent_halted (hp : S.phase = .idle) (hh : S.halted = true) : S.consistent t :=
  consistent_idle hp fun h => absurd (hh.symm.trans h) (by decide)

/-- A settled core may begin a sequence. -/
theorem consistent_of_settled (hp : S.phase.startsSettled = true) (h : S.settled t) (hc : S.ctxInv) : S.consistent t where
  device := by
    have hl : S.phase = .c1 ∨ S.phase = .d1 ∨ S.phase = .l1 ∨ S.phase = .i1 ∨ S.phase = .i3 := by
      simpa [Phase.startsSettled] using hp
    unfold deviceInv
    rcases hl with hl | hl | hl | hl | hl <;> rw [hl] <;> exact h.route
  ctx := hc
  halt := fun _ => h.running.trans (Phase.isReset_of_startsSettled hp).symm
  lamp := ⟨fun hf _ _ => h.led hf, fun hr _ => by rw [Phase.isReset_of_startsSettled hp] at hr; cases hr⟩

/-- A core that is not halted is settled at IDLE and while the handler has not begun or has ended its work (R22). -/
theorem consistent.settled (h : S.consistent t) (hp : S.phase ∈ [Phase.idle, .i2, .i3]) (hh : S.halted = false) :
    S.settled t where
  running := hh
  route := by
    have hd := h.device
    unfold deviceInv at hd
    simp only [List.mem_cons, List.not_mem_nil, or_false] at hp
    rcases hp with hp | hp | hp <;> rw [hp] at hd
    · exact hd hh
    · exact hd
    · exact hd
  led := fun hf => h.lamp.1 hf hh (by rintro hl; simp [hl] at hp)

/-- A running RESET at a label after Z1 whose devices are as they must be (R110, R203). -/
theorem consistent_reset (hr : S.phase.isReset = true) (hh : S.halted = true) (hl : S.led = 0xFF#8) (hd : S.deviceInv t) :
    S.consistent t where
  device := hd
  ctx := by
    cases hp : S.phase <;> simp_all [ctxInv, Phase.isReset, Phase.isHandler, Phase.isConnect, Phase.isDisconnect]
  halt := fun _ => hh.trans hr.symm
  lamp := ⟨fun _ h => absurd (hh.symm.trans h) (by decide), fun _ _ => hl⟩

/-! ### The setters -/

/-- A setter that uses no bus writes route devices and `activePort` only (R129, R134). -/
theorem apply_frame (S : Selector) (i : Instr) :
    S.apply i = { S with
      activePort := (S.apply i).activePort, tw := (S.apply i).tw, mux0 := (S.apply i).mux0, mux1 := (S.apply i).mux1
      dec := (S.apply i).dec } := by
  unfold apply; split <;> rfl

@[simp] theorem apply_led (S : Selector) (i : Instr) : (S.apply i).led = S.led := by rw [apply_frame]
@[simp] theorem apply_tgt (S : Selector) (i : Instr) : (S.apply i).tgt = S.tgt := by rw [apply_frame]
@[simp] theorem apply_ctx (S : Selector) (i : Instr) : (S.apply i).ctx = S.ctx := by rw [apply_frame]
@[simp] theorem apply_faultSeen (S : Selector) (i : Instr) : (S.apply i).faultSeen = S.faultSeen := by rw [apply_frame]
@[simp] theorem apply_halted (S : Selector) (i : Instr) : (S.apply i).halted = S.halted := by rw [apply_frame]

end Selector

/-- A chain of labels stays inside RESET or outside it (R155, R203). -/
theorem Phase.isReset_succ {l : Phase} (h : State.chainLabel l = true) : l.succ.isReset = l.isReset := by
  cases l <;> simp_all [State.chainLabel, Phase.succ, Phase.isReset]

namespace State

variable {s t : State} {i : Instr}

/-! #### The record after an update, whole -/

theorem setPhase_S (s : State) (l : Phase) : (s.setPhase l).S = { s.S with phase := l } := rfl
theorem setSample_S (s : State) (b : Byte) : (s.setSample b).S = { s.S with lastSample := b } := rfl
theorem setLed_S (s : State) (b : Byte) : (s.setLed b).S = { s.S with led := b } := rfl
theorem setSmp_S (s : State) (b : Byte) : (s.setSmp b).S = { s.S with smp := b } := rfl

/-! #### The labels that name a setter -/

theorem setter_of_busFree (hi : busFree i = true) : setter i = true := by
  cases i <;> simp_all [busFree, setter]

/-- At each label the setter it names makes the route devices satisfy what the next label demands (R155, R160). -/
theorem deviceInv_setter (hd : s.S.deviceInv s.par.table) (hi : busFree i = true) (hn : s.nextMicro = some i) :
    ({ s.S.apply i with phase := s.S.phase.succ } : Selector).deviceInv s.par.table := by
  unfold Selector.deviceInv at hd
  unfold nextMicro at hn
  cases hp : s.S.phase <;> simp only [hp, Option.some.injEq, reduceCtorEq] at hd hn <;> subst hn <;>
    simp only [busFree, setter, Bool.false_eq_true] at hi <;>
    simp only [Selector.deviceInv, Phase.succ, Selector.apply_tgt]
  case c1 | d1 | z2 => rfl
  case c2 | d2 | z3 => exact ⟨hd, rfl⟩
  case c3 | d3 | z4 => exact ⟨hd.1, hd.2, rfl⟩
  case c4 | d4 | z5 => exact ⟨hd.1, hd.2.1, hd.2.2, rfl⟩
  case c5 | z10 => exact ⟨hd, rfl⟩
  case c6 => cases (s.par.table.get s.S.tgt).muxSide <;> exact ⟨hd.1, hd.2, rfl⟩
  case c7 => exact ⟨hd.1, hd.2.1, hd.2.2, rfl⟩
  case c8 =>
    obtain ⟨⟨htw, h0, h1, hdec⟩, haddr, hsel, hside⟩ := hd
    unfold Selector.routeSet
    cases hm : (s.par.table.get s.S.tgt).muxSide <;> rw [hm] at hsel
    · exact ⟨⟨htw, hside, rfl, hsel, h1, haddr⟩, hdec⟩
    · exact ⟨⟨htw, hside, rfl, hsel, h0, haddr⟩, hdec⟩
  case c9 => exact ⟨hd.1, rfl⟩
  case c11 =>
    obtain ⟨⟨-, hside, hen, hsel, hother, haddr⟩, hdec⟩ := hd
    exact ⟨rfl, hside, hen, hsel, hother, hdec, haddr⟩
  case c10 | c12 | d5 | i1 | z6 | z7 | z8 | z9 => exact hd

/-- `ctx` keeps fitting the label, and at L1 the connect has left a port and the disconnect none (R199, R206). -/
theorem ctxInv_setter (hc : s.S.ctxInv) (hi : busFree i = true) (hn : s.nextMicro = some i) :
    ({ s.S.apply i with phase := s.S.phase.succ } : Selector).ctxInv := by
  obtain ⟨hhandler, hconnect, hdisconnect, -, -⟩ := hc
  unfold nextMicro at hn
  cases hp : s.S.phase <;> simp only [hp, Option.some.injEq, reduceCtorEq] at hn <;> subst hn <;>
    simp_all [Selector.ctxInv, Phase.succ, Phase.isHandler, Phase.isConnect, Phase.isDisconnect, busFree, setter]
  case c12 => exact fun _ => nofun
  case d5 => exact fun _ => rfl

/-- `activePort` is written at the end of a connect or disconnect, which the refresh follows, or during RESET (R134, R155). -/
theorem activePort_setter (hi : busFree i = true) (hn : s.nextMicro = some i) :
    s.S.phase.succ = .l1 ∨ s.S.phase.isReset = true ∨ (s.S.apply i).activePort = s.S.activePort := by
  cases i
  case setActive =>
    unfold nextMicro at hn
    cases hp : s.S.phase <;> simp_all [Phase.succ, Phase.isReset]
  case muxDisable m | muxEnable m | muxSelect m _ => cases m <;> exact .inr (.inr rfl)
  all_goals exact .inr (.inr rfl)

/-- A label that names a setter that uses no bus. -/
theorem labels_setter (hi : busFree i = true) (hn : s.nextMicro = some i) :
    s.S.phase ≠ .idle ∧ s.S.phase ≠ .l1 ∧ s.S.phase ≠ .z1 := by
  unfold nextMicro at hn
  refine ⟨?_, ?_, ?_⟩ <;> intro hp <;> simp only [hp, Option.some.injEq, reduceCtorEq] at hn
  all_goals subst hn; simp [busFree, setter] at hi

/-- A setter that uses no bus, issued by the sequencer, keeps the invariant of the record. -/
theorem consistent_setter (h : s.S.consistent s.par.table) (hi : busFree i = true) (hn : s.nextMicro = some i) :
    ({ s.S.apply i with phase := s.S.phase.succ } : Selector).consistent s.par.table := by
  have hreset := Phase.isReset_succ (chainLabel_of_setter s hn (setter_of_busFree hi))
  obtain ⟨hidle, hl1, hz1⟩ := labels_setter hi hn
  obtain ⟨hled, hlamp⟩ := h.lamp
  refine ⟨deviceInv_setter h.device hi hn, ctxInv_setter h.ctx hi hn, fun _ => ?_, fun hf hh hl => ?_, fun hr _ => ?_⟩
  · simpa [hreset] using h.halt hidle
  · simp only [Selector.apply_faultSeen, Selector.apply_halted] at hf hh
    rcases activePort_setter hi hn with hl' | hr | ha
    · exact absurd hl' hl
    · rw [h.halt hidle, hr] at hh; cases hh
    · simpa [Selector.ledInv, ha] using hled hf hh hl1
  · simpa using hlamp (hreset ▸ hr) hz1

/-! ### The sequencer's other moves -/

theorem advance_l1 (hp : s.S.phase = .l1) : s.advance = s.afterRefresh := by unfold advance; rw [hp]
theorem advance_i2 (hp : s.S.phase = .i2) : s.advance = s.dispatchEdge := by unfold advance; rw [hp]
theorem advance_i3 (hp : s.S.phase = .i3) : s.advance = s.finish := by unfold advance; rw [hp]
theorem advance_z12 (hp : s.S.phase = .z12) : s.advance = s.endReset := by unfold advance; rw [hp]

variable {tab : PortTable}

/-- SELECT's dispatch from a settled core: neither HALT nor a handler without a port refreshes the LEDs (R150, R189). -/
theorem consistent_dispatchPort (h : s.S.settled tab) (hc : s.S.ctx ≠ .halt) (p : Port) :
    (s.dispatchPort p).S.consistent tab := by
  rw [dispatchPort_S]
  split
  case isTrue hp =>
    refine Selector.consistent_of_settled rfl ⟨h.running, h.route, h.led⟩ ?_
    simp [Selector.ctxInv, Phase.isHandler, Phase.isConnect, Phase.isDisconnect, hp, hc]
  case isFalse =>
    refine Selector.consistent_of_settled rfl ⟨h.running, h.route, h.led⟩ ?_
    simp [Selector.ctxInv, Phase.isHandler, Phase.isConnect, Phase.isDisconnect, hc]

/-- The end of an operation leaves a settled core settled, at IDLE. -/
theorem consistent_finish (h : s.S.settled tab) : s.finish.S.consistent tab :=
  Selector.consistent_idle rfl fun _ => ⟨h.running, h.route, h.led⟩

/-- The handler's last label, from a settled core. -/
theorem consistent_i3 (h : s.S.settled tab) (hc : s.S.ctx = .irq) : (s.setPhase .i3).S.consistent tab :=
  Selector.consistent_of_settled rfl ⟨h.running, h.route, h.led⟩
    (by simp [Selector.ctxInv, Phase.isHandler, Phase.isConnect, Phase.isDisconnect, hc])

/-- The handler's decision (R187, R189, R193). -/
theorem consistent_dispatchEdge (h : s.S.settled tab) (hc : s.S.ctx = .irq) : s.dispatchEdge.S.consistent tab := by
  unfold dispatchEdge
  split
  · exact consistent_finish h
  · split
    · exact consistent_i3 h hc
    · exact consistent_dispatchPort h (by simp [hc]) _

/-- After the LED refresh (R173). -/
theorem consistent_afterRefresh (h : s.S.settled tab) : s.afterRefresh.S.consistent tab := by
  unfold afterRefresh
  split
  · exact consistent_finish h
  case h_2 hc => exact consistent_i3 h hc
  · exact Selector.consistent_halted rfl rfl

/-- The end of RESET writes the label and `halted`, and the latched operands become unspecified (R43, R203). -/
theorem endReset_S (s : State) : s.endReset.S =
    { s.S with
      phase := .idle, halted := false, tgt := s.endReset.S.tgt, smp := s.endReset.S.smp, ctx := s.endReset.S.ctx } := rfl

/-- After RESET nothing is enabled or lit (R43, R203). -/
theorem consistent_endReset (hoff : s.S.allOff) (ha : s.S.activePort = none) (hl : s.S.led = 0xFF#8) :
    s.endReset.S.consistent tab := by
  have hroute : s.S.routeInv tab := by unfold Selector.routeInv; rw [ha]; exact hoff
  have hled : s.S.ledInv tab := by unfold Selector.ledInv; rw [ha, hl]; rfl
  rw [endReset_S]
  exact Selector.consistent_idle rfl fun _ => ⟨rfl, hroute, fun _ => hled⟩

/-- A bus failure abandons the operation at IDLE with the route as it was (R22, R214). -/
theorem consistent_raiseBusFault (k : BusKind) (h : s.S.halted = false → s.S.routeInv tab) :
    (s.raiseBusFault k).S.consistent tab := by
  by_cases hk : s.S.phase = .l1 ∧ s.S.ctx = .halt ∧ k = .write
  · obtain ⟨hp, hc, rfl⟩ := hk
    rw [raiseBusFault_halt s hp hc]
    exact Selector.consistent_halted rfl rfl
  · rw [raiseBusFault_abandon s k hk]
    exact Selector.consistent_idle rfl fun hh => ⟨hh, h hh, fun hf => Bool.noConfusion hf⟩

/-- From a label that is in no chain the sequencer never goes into RESET, which only its acceptance begins (R203). -/
theorem isReset_advance (hl : chainLabel s.S.phase = false) : s.advance.S.phase.isReset = false := by
  unfold advance afterRefresh dispatchEdge dispatchPort
  cases hp : s.S.phase <;> simp only [hp, chainLabel, Bool.true_eq_false] at hl ⊢
  case idle => rfl
  all_goals
    repeat' split
    all_goals rfl

/-! ### The operations -/

theorem inv.consistent (h : s.inv) : s.S.consistent s.par.table := ⟨h.device, h.ctx, h.halt, h.lamp⟩

/-- From a state of the invariant, a next state whose record is consistent. -/
theorem inv_of_consistent (h : s.inv) (hpar : t.par = s.par) (hbare : t.env.bare = s.env.bare)
    (hS : t.S.consistent s.par.table) (hswept : t.S.phase.isReset = true → ∀ w ∈ t.env.requests, w = 0x0500#16) : t.inv where
  table := hpar ▸ h.table
  owned := hbare.trans h.owned
  device := hpar ▸ hS.device
  ctx := hS.ctx
  halt := hS.halt
  lamp := hpar ▸ hS.lamp
  swept := hswept

/-- While RESET runs the core is halted (R203). -/
theorem inv.halted_of_reset (h : s.inv) (hr : s.S.phase.isReset = true) : s.S.halted = true := by
  rw [h.halt (by rintro hp; simp [hp, Phase.isReset] at hr), hr]

/-- While any other operation runs the core is not halted (R32). -/
theorem inv.running (h : s.inv) (hp : s.S.phase ≠ .idle) (hr : s.S.phase.isReset = false) : s.S.halted = false := by
  rw [h.halt hp, hr]

/-- At IDLE a core that is not halted is settled (R22, R174). -/
theorem inv.settled_idle (h : s.inv) (hp : s.S.phase = .idle) (hh : s.S.halted = false) : s.S.settled s.par.table :=
  h.consistent.settled (by simp [hp]) hh

/-- At its read and at its last write the handler leaves the core settled (R186). -/
theorem inv.settled_handler (h : s.inv) (hp : s.S.phase = .i2 ∨ s.S.phase = .i3) : s.S.settled s.par.table := by
  refine h.consistent.settled ?_ (h.running ?_ ?_) <;> rcases hp with hp | hp <;> simp [hp, Phase.isReset]

/-- At the last two labels of RESET nothing is enabled or lit (R203). -/
theorem inv.reset_done (h : s.inv) (hp : s.S.phase = .z11 ∨ s.S.phase = .z12) :
    s.S.halted = true ∧ s.S.allOff ∧ s.S.activePort = none ∧ s.S.led = 0xFF#8 := by
  have hr : s.S.phase.isReset = true := by rcases hp with hp | hp <;> rw [hp] <;> rfl
  have hdone : s.S.allOff ∧ s.S.activePort = none := by
    have hd := h.device
    unfold Selector.deviceInv at hd
    rcases hp with hp | hp <;> rw [hp] at hd <;> exact hd
  exact ⟨h.halted_of_reset hr, hdone.1, hdone.2, h.lamp.2 hr (by rcases hp with hp | hp <;> simp [hp])⟩

/-- EXP_READ that is not refused. -/
theorem expRead_of_next (hs : execExpRead s = .next t) : t = s.expRead := by
  unfold execExpRead at hs
  split at hs
  · cases hs
  · injection hs with hs; exact hs.symm

/-- A micro-operation the sequencer issued, which left `t` before the sequencer moved on. -/
theorem inv_afterMicro (h : s.inv) (hn : s.nextMicro = some i) (hpar : t.par = s.par) (hbare : t.env.bare = s.env.bare)
    (hp : t.S.phase = s.S.phase) (hswept : s.S.phase.isReset = true → ∀ w ∈ t.env.requests, w = 0x0500#16)
    (hS : ∀ u : State, u.S = t.S → u.advance.S.consistent s.par.table) : (s.afterMicro i t).inv := by
  have henv := afterMicro_env s i t
  refine inv_of_consistent h (by simp [hpar]) (by rw [henv]; exact hbare) ?_ ?_
  · rw [afterMicro_own s t hn]; exact hS _ rfl
  · intro hr
    rw [henv]
    refine hswept ?_
    rw [afterMicro_own s t hn] at hr
    by_cases hl : chainLabel s.S.phase = true
    · rw [advance_chain _ (by simpa [hp] using hl)] at hr
      simpa [hp, Phase.isReset_succ hl] using hr
    · rw [isReset_advance (by simpa [hp] using hl)] at hr; cases hr

/-- The setters that use no bus. -/
theorem inv_setter (h : s.inv) (hi : busFree i = true) (hn : s.nextMicro = some i) (hs : exec i s = .next t) : t.inv := by
  rw [exec_setter s hi hn] at hs
  cases hs
  refine inv_of_consistent h rfl rfl (consistent_setter h.consistent hi hn) fun hr => h.swept ?_
  rwa [← Phase.isReset_succ (chainLabel_of_setter s hn (setter_of_busFree hi))]

/-- EXP_INIT at Z1 (R110, R204). -/
theorem inv_expInit (h : s.inv) (hp : s.S.phase = .z1) : s.expInit.inv := by
  have hn : s.nextMicro = some .expInit := by unfold nextMicro; rw [hp]
  have hh : s.S.halted = true := h.halted_of_reset (by rw [hp]; rfl)
  unfold expInit
  split
  · refine inv_afterMicro h hn (by simp) (by simp) (by simp) (fun hr => by simpa using h.swept hr) fun u hu => ?_
    rw [advance_chain u (by simp [hu, hp, chainLabel]), setPhase_S, hu, losesLatch_S, setLed_S, useBus_S, hp]
    exact Selector.consistent_reset rfl hh rfl trivial
  · simp only [if_pos hp]
    exact inv_of_consistent h (by simp) (by simp) (Selector.consistent_halted rfl rfl) fun hr => nomatch hr

/-- EXP_WRITE at L1 (R112, R173). -/
theorem inv_expWrite (h : s.inv) (hp : s.S.phase = .l1) : (s.expWrite (ledByte s.par.table s.S.activePort)).inv := by
  have hn : s.nextMicro = some (.expWrite (ledByte s.par.table s.S.activePort)) := by unfold nextMicro; rw [hp]
  have hroute : s.S.routeInv s.par.table := by have hd := h.device; unfold Selector.deviceInv at hd; rwa [hp] at hd
  have hh : s.S.halted = false := h.running (by simp [hp]) (by rw [hp]; rfl)
  unfold expWrite
  split
  · refine inv_afterMicro h hn (by simp) (by simp) (by simp) (fun hr => by simp [hp, Phase.isReset] at hr) fun u hu => ?_
    rw [advance_l1 (by simp [hu, hp])]
    refine consistent_afterRefresh ?_
    rw [hu, setLed_S, useBus_S]
    exact ⟨hh, hroute, fun _ => rfl⟩
  · refine inv_of_consistent h (by simp) (by simp) (consistent_raiseBusFault _ fun _ => ?_) fun hr => ?_
    · rw [losesLed_S, record_S, useBus_S]; exact hroute
    · simp [Phase.isReset] at hr

/-- EXP_READ at I2, followed by the handler's decision, or at Z11 (R111, R187, R203, R204). -/
theorem inv_expRead (h : s.inv) (hp : s.S.phase = .i2 ∨ s.S.phase = .z11) : s.expRead.inv := by
  have hn : s.nextMicro = some .expRead := by unfold nextMicro; rcases hp with hp | hp <;> rw [hp]
  unfold expRead
  split
  case h_1 b _ =>
    refine inv_afterMicro h hn (by simp) (by rw [clearLatch_env]; simp) (by simp) (fun hr => ?_) fun u hu => ?_
    · rw [clearLatch_requests]
      simpa [h.halted_of_reset hr] using h.swept hr
    · rw [clearLatch_S, setSmp_S, useRead_S] at hu
      rcases hp with hp | hp
      · obtain ⟨hh, hroute, hled⟩ := h.settled_handler (.inl hp)
        rw [advance_i2 (by rw [hu]; exact hp)]
        exact consistent_dispatchEdge (by rw [hu]; exact ⟨hh, hroute, hled⟩) (by rw [hu]; exact h.ctx.1 (by rw [hp]; rfl))
      · obtain ⟨hh, hoff, ha, hl⟩ := h.reset_done (.inl hp)
        rw [advance_chain u (by rw [hu, hp]; rfl), setPhase_S, hu, hp]
        exact Selector.consistent_reset rfl hh hl ⟨hoff, ha⟩
  case h_2 =>
    rcases hp with hp | hp
    · rw [if_neg (by simp [hp])]
      refine inv_of_consistent h (by simp) (by simp) (consistent_raiseBusFault _ fun _ => ?_) fun hr => ?_
      · rw [losesLatch_S, record_S, useRead_S]; exact (h.settled_handler (.inl hp)).route
      · simp [Phase.isReset] at hr
    · obtain ⟨hh, -⟩ := h.reset_done (.inl hp)
      rw [if_pos hp, raiseBusFault_abandon _ _ (by simp [hp])]
      refine inv_of_consistent h (by simp) (by simp) (Selector.consistent_halted rfl ?_) fun hr => nomatch hr
      simpa using hh

/-- SET_SAMPLE at I3 or at Z12, the last micro-operation of the handler and of RESET (R135, R190, R203). -/
theorem inv_setSample (h : s.inv) (hp : s.S.phase = .i3 ∨ s.S.phase = .z12) :
    (s.afterMicro (.setSample s.S.smp) (s.setSample s.S.smp)).inv := by
  have hn : s.nextMicro = some (.setSample s.S.smp) := by unfold nextMicro; rcases hp with hp | hp <;> rw [hp]
  refine inv_afterMicro h hn rfl rfl rfl h.swept fun u hu => ?_
  rw [setSample_S] at hu
  rcases hp with hp | hp
  · obtain ⟨hh, hroute, hled⟩ := h.settled_handler (.inr hp)
    rw [advance_i3 (by rw [hu]; exact hp)]
    exact consistent_finish (by rw [hu]; exact ⟨hh, hroute, hled⟩)
  · obtain ⟨-, hoff, ha, hl⟩ := h.reset_done (.inr hp)
    rw [advance_z12 (by rw [hu]; exact hp)]
    exact consistent_endReset (by rw [hu]; exact hoff) (by rw [hu]; exact ha) (by rw [hu]; exact hl)

/-- The micro-operation the label names. -/
theorem inv_micro (h : s.inv) (hn : s.nextMicro = some i) (hs : exec i s = .next t) : t.inv := by
  by_cases hi : busFree i = true
  · exact inv_setter h hi hn hs
  · unfold nextMicro at hn
    cases hp : s.S.phase <;> simp only [hp, Option.some.injEq, reduceCtorEq] at hn <;> subst hn
    case z1 => cases hs; exact inv_expInit h hp
    case l1 => cases hs; exact inv_expWrite h hp
    case i3 => cases hs; exact inv_setSample h (.inl hp)
    case z12 => cases hs; exact inv_setSample h (.inr hp)
    case i2 => rw [expRead_of_next hs]; exact inv_expRead h (.inl hp)
    case z11 => rw [expRead_of_next hs]; exact inv_expRead h (.inr hp)
    all_goals exact absurd rfl hi

/-! ### The acceptance of a request -/

/-- At IDLE nothing but the record, the parameters and the outside issuer matters. -/
theorem inv_idle (h : s.inv) (hp : s.S.phase = .idle) (hS : t.S = s.S) (hpar : t.par = s.par)
    (hbare : t.env.bare = s.env.bare) : t.inv :=
  inv_of_consistent h hpar hbare (hS ▸ h.consistent) fun hr => by rw [hS, hp] at hr; cases hr

/-- A request at IDLE: a halted core refuses it, any other begins the operation (R67, R207). -/
theorem inv_accept (h : s.inv) (hp : s.S.phase = .idle) (htaken : s.S.halted = false → t.inv) : (s.accept i t).inv := by
  cases hh : s.S.halted
  · rw [accept_taken s i t hh hp]; exact htaken hh
  · rw [accept_halted s i t hh]; exact inv_idle h hp rfl rfl rfl

/-- DISCONNECT, IRQ and HALT begin at the first label of their sequence (R151, R185, R206). -/
theorem inv_begin (h : s.inv) (hp : s.S.phase = .idle) (hh : s.S.halted = false) {c : Ctx} {l : Phase}
    (hc : (c, l) ∈ [(Ctx.cmd, Phase.d1), (.irq, .i1), (.halt, .d1)]) : ((s.setCtx c).setPhase l).inv := by
  obtain ⟨-, hroute, hled⟩ := h.settled_idle hp hh
  have hl : l.startsSettled = true ∧ ({ s.S with ctx := c, phase := l } : Selector).ctxInv := by
    simp only [List.mem_cons, Prod.mk.injEq, List.not_mem_nil, or_false] at hc
    rcases hc with ⟨rfl, rfl⟩ | ⟨rfl, rfl⟩ | ⟨rfl, rfl⟩ <;>
      simp [Phase.startsSettled, Selector.ctxInv, Phase.isHandler, Phase.isConnect, Phase.isDisconnect]
  obtain ⟨hstart, hctx⟩ := hl
  exact inv_of_consistent h rfl rfl (Selector.consistent_of_settled hstart ⟨hh, hroute, hled⟩ hctx) fun hr =>
    absurd ((Phase.isReset_of_startsSettled hstart).symm.trans hr) (by decide)

/-- SELECT begins a disconnect, the refresh or a connect (R150). -/
theorem inv_select {idx : Int} (h : s.inv) (hp : s.S.phase = .idle) (hs : execSelect idx s = .next t) : t.inv := by
  cases hs
  refine inv_accept h hp fun hh => ?_
  split
  · exact inv_begin h hp hh (by simp)
  · obtain ⟨-, hroute, hled⟩ := h.settled_idle hp hh
    have hset : (s.setCtx .cmd).S.settled s.par.table := ⟨hh, hroute, hled⟩
    refine inv_of_consistent h (by simp) (by simp) (consistent_dispatchPort hset (by simp) _) fun hr => ?_
    rw [dispatchPort_S] at hr
    split at hr <;> cases hr

/-- RESET begins at Z1 with nothing but other RESETs waiting (R203, R207). -/
theorem inv_reset (h : s.inv) (hp : s.S.phase = .idle) (hs : execReset s = .next t) : t.inv := by
  unfold execReset at hs
  rw [if_pos hp] at hs
  obtain ⟨l, n, heq, -⟩ := refuseWaiting_cases (((s.setFaultSeen false).setHalted true).setPhase .z1) rfl
  rw [heq] at hs
  cases hs
  refine inv_of_consistent h rfl rfl ⟨trivial, ?_, fun _ => rfl, nofun, fun _ hz => absurd rfl hz⟩ fun _ w hw => ?_
  · simp [Selector.ctxInv, Phase.isHandler, Phase.isConnect, Phase.isDisconnect]
  · simpa using (List.mem_filter.mp hw).2

/-- A word taken at the command port (R67, R94, R96). -/
theorem inv_runRequest (h : s.inv) (hp : s.S.phase = .idle) {w : Word16} (hs : runRequest w s = .next t) : t.inv := by
  have hmal : s.malformed.inv := inv_idle h hp (by simp) (by simp) (by rw [malformed_env])
  unfold runRequest at hs
  split at hs
  case h_2 => cases hs; exact hmal
  case h_1 i _ =>
    split at hs
    case isFalse => cases hs; exact hmal
    case isTrue hi =>
      cases i <;> simp only [Instr.isPublic, Bool.false_eq_true] at hi
      case select idx => exact inv_select h hp hs
      case reset => exact inv_reset h hp hs
      case disconnect => cases hs; exact inv_accept h hp fun hh => inv_begin h hp hh (by simp)
      case halt => cases hs; exact inv_accept h hp fun hh => inv_begin h hp hh (by simp)
      case status => cases hs; exact inv_accept h hp fun _ => inv_idle h hp rfl rfl rfl
      case irq =>
        cases hs
        split
        · exact h
        · exact inv_accept h hp fun hh => inv_begin h hp hh (by simp)

/-! ### The step -/

/-- The sequencer names no micro-operation only at IDLE (R28). -/
theorem idle_of_nextMicro (hn : s.nextMicro = none) : s.S.phase = .idle := by
  unfold nextMicro at hn
  cases hp : s.S.phase <;> simp_all

/-- A move of the core: the label's micro-operation, the first waiting request, or nothing (R67, R250). -/
theorem inv_coreMove (h : s.inv) (hs : coreMove s = .next t) : t.inv := by
  unfold coreMove at hs
  split at hs
  case h_1 hb => exact absurd (h.owned.symm.trans hb) nofun
  case h_2 =>
    split at hs
    case h_1 hn => exact inv_micro h hn hs
    case h_2 hn =>
      have hp := idle_of_nextMicro hn
      split at hs
      · refine inv_runRequest ?_ ?_ hs
        · exact inv_idle h hp rfl rfl rfl
        · exact hp
      · cases hs; exact h

/-- The latch is no part of the invariant. -/
theorem consistent_latch (h : s.S.consistent tab) (b : Bool) : ({ s.S with intLatch := b } : Selector).consistent tab :=
  ⟨h.device, h.ctx, h.halt, h.lamp⟩

/-- The panel moves (R56): while RESET runs the notification is dropped (R113). -/
theorem inv_panelMoves (h : s.inv) (b : Byte) (n : Option Nat) : (s.panelMoves b n).inv := by
  unfold panelMoves
  split
  · refine inv_of_consistent h (by simp) (by rw [notify_env]; rfl) ?_ fun hr => ?_
    · rw [notify_S]; exact consistent_latch h.consistent true
    · rw [notify_S] at hr
      simpa [notify_requests, h.halted_of_reset hr] using h.swept hr
  · exact inv_of_consistent h rfl rfl h.consistent h.swept

/-- A word is presented (R69): while RESET runs only a RESET waits (R207). -/
theorem inv_present (h : s.inv) (w : Word16) (n : Nat) : (s.present w n).inv := by
  by_cases hw : s.S.halted = false ∨ w = 0x0500#16
  · rw [present_waits s w n hw]
    refine inv_of_consistent h rfl rfl h.consistent fun hr v hv => ?_
    rcases (mem_insertAt n w v _).mp hv with rfl | hv
    · exact hw.resolve_left (by simp [h.halted_of_reset hr])
    · exact h.swept hr v hv
  · simp only [not_or, Bool.not_eq_false] at hw
    rw [present_refused s w n hw.1 hw.2]
    obtain ⟨-, heq⟩ | ⟨-, c, m, heq, -⟩ := refuse_cases s w hw.1
    · rw [heq]; exact h
    · rw [heq]; exact inv_of_consistent h rfl rfl h.consistent h.swept

theorem inv_envMove (h : s.inv) (e : EnvEvent) : (s.envMove e).inv := by
  cases e with
  | panel b n => exact inv_panelMoves h b n
  | request w n => exact inv_present h w n
  | powerCycle => exact inv_of_consistent h rfl rfl (Selector.consistent_halted rfl rfl) fun hr => nomatch hr

/-- Whose turn it is is no part of the invariant. -/
theorem inv_turns (h : s.inv) (l : List Turn) : ({ s with env.turns := l } : State).inv :=
  inv_of_consistent h rfl rfl h.consistent h.swept

/-- Every step keeps the invariant, whatever the environment does and whatever the bus answers. -/
theorem inv_step (h : s.inv) (hs : step s = .next t) : t.inv := by
  unfold step at hs
  split at hs
  · cases hs; exact inv_envMove (inv_turns h _) _
  · exact inv_coreMove (inv_turns h _) hs
  · exact inv_coreMove h hs

end State

/-- Settles O49: every step keeps the invariant, which at IDLE says that a core that is not halted is settled. -/
theorem idleStatesAreConsistent : Obligations.IdleStatesAreConsistent := by
  unfold Obligations.IdleStatesAreConsistent
  intro s t h hs hp hh
  obtain ⟨-, hroute, hled⟩ := (State.inv_step h hs).settled_idle hp hh
  exact ⟨hroute, hled⟩

end Sys2Proof.Machine
end

section
/-! PROOFS. The packed port descriptor (R85): each field at its bits, and packing and unpacking inverse to each other. -/

namespace Sys2Proof

/-- Three bits name the position whose number they hold. -/
theorem threeBits_ofNat (p : Fin 8) : threeBits (BitVec.ofNat 3 p.val) = p :=
  Fin.ext (Nat.mod_eq_of_lt p.isLt)

theorem ofNat_threeBits (v : BitVec 3) : BitVec.ofNat 3 (threeBits v).val = v := by
  simp [threeBits]

/-- A bit of a word is the slice of width one there. -/
theorem ofBool_getLsbD (w : Word16) (n : Nat) : BitVec.ofBool (w.getLsbD n) = w.extractLsb' n 1 := by
  rw [BitVec.getLsbD_eq_extractLsb']
  generalize w.extractLsb' n 1 = b
  revert b; decide

theorem getLsbD_of_slice {w : Word16} {n : Nat} {b : Bool} (h : w.extractLsb' n 1 = BitVec.ofBool b) : w.getLsbD n = b := by
  rw [BitVec.getLsbD_eq_extractLsb', h]
  cases b <;> rfl

namespace PortDescriptor

variable (d : PortDescriptor)

/-! A field is the last piece of the word that is left when the pieces below it are dropped. -/

theorem pack_index : d.pack.extractLsb' 13 3 = BitVec.ofNat 3 d.index.val := by
  unfold pack
  iterate 6 refine (BitVec.extractLsb'_append_eq_of_le (by decide)).trans ?_
  exact BitVec.extractLsb'_eq_self

theorem pack_inputBit : d.pack.extractLsb' 10 3 = BitVec.ofNat 3 d.inputBit.val := by
  unfold pack
  iterate 5 refine (BitVec.extractLsb'_append_eq_of_le (by decide)).trans ?_
  exact BitVec.extractLsb'_append_eq_right

theorem pack_outputBit : d.pack.extractLsb' 7 3 = BitVec.ofNat 3 d.outputBit.val := by
  unfold pack
  iterate 4 refine (BitVec.extractLsb'_append_eq_of_le (by decide)).trans ?_
  exact BitVec.extractLsb'_append_eq_right

theorem pack_muxSide : d.pack.getLsbD 6 = d.muxSide.bit := by
  apply getLsbD_of_slice
  unfold pack
  iterate 3 refine (BitVec.extractLsb'_append_eq_of_le (by decide)).trans ?_
  exact BitVec.extractLsb'_append_eq_right

theorem pack_muxSelect : d.pack.extractLsb' 4 2 = d.muxSelect := by
  unfold pack
  iterate 2 refine (BitVec.extractLsb'_append_eq_of_le (by decide)).trans ?_
  exact BitVec.extractLsb'_append_eq_right

theorem pack_twoWaySide : d.pack.getLsbD 3 = d.twoWaySide.bit := by
  apply getLsbD_of_slice
  unfold pack
  refine (BitVec.extractLsb'_append_eq_of_le (by decide)).trans ?_
  exact BitVec.extractLsb'_append_eq_right

theorem pack_decoderAddress : d.pack.extractLsb' 0 3 = d.decoderAddress :=
  BitVec.extractLsb'_append_eq_right

theorem unpack_pack : unpack d.pack = d := by
  simp only [unpack, pack_index, pack_inputBit, pack_outputBit, pack_muxSide, pack_muxSelect, pack_twoWaySide,
    pack_decoderAddress, threeBits_ofNat, Side.ofBit_bit]

/-- The seven slices of a word, put together again, are the word. -/
theorem pack_unpack (w : Word16) : (unpack w).pack = w := by
  simp only [unpack, pack, ofNat_threeBits, Side.bit_ofBit, ofBool_getLsbD]
  iterate 5 rw [BitVec.extractLsb'_append_extractLsb'_eq_extractLsb' (by rfl)]
  exact BitVec.extractLsb'_append_extractLsb'

end PortDescriptor

/-- Settles O6: the bits of each field, both inverses, and the words of `T0` by evaluation. -/
theorem descriptorPacking : Obligations.DescriptorPacking := by
  unfold Obligations.DescriptorPacking
  refine ⟨fun d => ?_, PortDescriptor.unpack_pack, PortDescriptor.pack_unpack, by decide⟩
  have hd := PortDescriptor.unpack_pack d
  exact ⟨congrArg (·.index.val) hd, congrArg (·.inputBit.val) hd, congrArg (·.outputBit.val) hd, d.pack_muxSide,
    d.pack_muxSelect, d.pack_twoWaySide, d.pack_decoderAddress⟩

end Sys2Proof
end

section
/-! PROOFS. The decoder and the opcode map (R95) say the same: a row and a word are compared byte by byte, each row is held against
the decoder's answer at the row's opcode, and the opcodes of the rows are pairwise distinct. -/

namespace Sys2Proof

/-! ### Words, byte by byte -/

theorem opOf_and (v w : Word16) : opOf (v &&& w) = opOf v &&& opOf w := BitVec.extractLsb'_and

theorem argOf_and (v w : Word16) : argOf (v &&& w) = argOf v &&& argOf w := BitVec.extractLsb'_and

theorem word_eq_iff {v w : Word16} : v = w ↔ opOf v = opOf w ∧ argOf v = argOf w := by
  constructor
  · rintro rfl
    exact ⟨rfl, rfl⟩
  · rintro ⟨hop, harg⟩
    rw [← opOf_append_argOf v, ← opOf_append_argOf w, hop, harg]

namespace OpcodeRow

/-! ### A row, byte by byte -/

/-- The row's opcode byte (R95). -/
def opcode (r : OpcodeRow) : Byte := opOf r.value

/-- The argument bits the row fixes at zero (R92, R94). -/
def reserved (r : OpcodeRow) : Byte := argOf r.mask

/-- The row's condition on the argument byte (R95). -/
def takes (r : OpcodeRow) (arg : Byte) : Prop :=
  arg &&& r.reserved = 0#8 ∧ (arg.extractLsb' 0 4).toNat ≤ r.maxNibble

/-- Every row compares the whole opcode byte, and the argument bits it compares are zero. -/
theorem bytes_of_mem : ∀ r ∈ opcodeRows, opOf r.mask = BitVec.allOnes 8 ∧ argOf r.value = 0#8 := by decide

theorem admits_iff {r : OpcodeRow} (hr : r ∈ opcodeRows) (w : Word16) :
    r.admits w = true ↔ opOf w = r.opcode ∧ r.takes (argOf w) := by
  obtain ⟨hmask, hvalue⟩ := bytes_of_mem r hr
  have hnibble : (argOf w).extractLsb' 0 4 = w.extractLsb' 0 4 := BitVec.extractLsb'_extractLsb'_of_le (by decide)
  simp only [admits, Bool.and_eq_true, decide_eq_true_eq, word_eq_iff, opOf_and, argOf_and, hmask, hvalue, BitVec.and_allOnes,
    takes, hnibble, and_assoc, opcode, reserved]

/-- No two rows share an opcode (R95). -/
theorem eq_of_opcode_eq {q r : OpcodeRow} (hq : q ∈ opcodeRows) (hr : r ∈ opcodeRows) (h : q.opcode = r.opcode) : q = r :=
  List.inj_on_of_nodup_map (f := opcode) (by decide) hq hr h

/-! ### A row and the decoder -/

/-- `d`, as a function of the argument byte, accepts what the row takes, as the operation of the row's mnemonic. -/
def Describes (r : OpcodeRow) (d : Byte → Except DecodeError Instr) : Prop :=
  ∀ arg, ((∃ i, d arg = .ok i) ↔ r.takes arg) ∧ ∀ i, d arg = .ok i → r.mnemonic.toList = i.mnemonic

variable {r : OpcodeRow} {f : Byte → Instr}

theorem takes_iff_of_maxNibble (hn : r.maxNibble = 15) (arg : Byte) : r.takes arg ↔ arg &&& r.reserved = 0#8 := by
  have : (arg.extractLsb' 0 4).toNat ≤ 15 := Nat.le_of_lt_succ (arg.extractLsb' 0 4).isLt
  simp only [takes, hn, this, and_true]

/-- A row whose operation is guarded by the row's own reserved bits. -/
theorem describes_guardArg (hn : r.maxNibble = 15) (hm : ∀ arg, r.mnemonic.toList = (f arg).mnemonic) :
    r.Describes fun arg => guardArg arg r.reserved (f arg) := by
  intro arg
  refine ⟨?_, fun i h => (guardArg_ok h).2 ▸ hm arg⟩
  rw [takes_iff_of_maxNibble hn]
  exact ⟨fun ⟨_, h⟩ => (guardArg_ok h).1, fun h => ⟨f arg, if_pos h⟩⟩

/-- A row that reserves no bit of the argument. -/
theorem describes_any (hn : r.maxNibble = 15) (hz : r.reserved = 0#8) (hm : ∀ arg, r.mnemonic.toList = (f arg).mnemonic) :
    r.Describes fun arg => .ok (f arg) := by
  intro arg
  refine ⟨?_, ?_⟩
  · rw [takes_iff_of_maxNibble hn, hz]
    exact ⟨fun _ => BitVec.and_zero, fun _ => ⟨f arg, rfl⟩⟩
  · rintro i ⟨⟩
    exact hm arg

end OpcodeRow

/-- A 4-bit code names a value of `activePort` exactly when it is at most 8 (R83). -/
theorem exists_activeOfCode_iff (v : BitVec 4) : (∃ a, activeOfCode v = some a) ↔ v.toNat ≤ 8 := by
  revert v; decide

/-- SET_ACTIVE is accepted when its reserved bits are zero and its code names a value (R83, R95). -/
theorem decodeActive_ok_iff {arg : Byte} {i : Instr} :
    decodeActive arg = .ok i ↔
      arg &&& 0xF0#8 = 0#8 ∧ ∃ v, activeOfCode (arg.extractLsb' 0 4) = some v ∧ i = .setActive v := by
  unfold decodeActive
  split
  · cases activeOfCode (arg.extractLsb' 0 4) <;> simp_all [eq_comm]
  · simp_all

namespace OpcodeRow

/-- SET_ACTIVE's row, whose nibble condition is the reserved codes' (R83, R95). -/
theorem describes_decodeActive : (OpcodeRow.mk "SET_ACTIVE" 0x6000#16 0xFFF0#16 8).Describes decodeActive := by
  intro arg
  constructor
  · simp only [decodeActive_ok_iff, takes, ← exists_activeOfCode_iff]
    constructor
    · rintro ⟨_, hz, v, hv, -⟩
      exact ⟨hz, v, hv⟩
    · rintro ⟨hz, v, hv⟩
      exact ⟨_, hz, v, hv, rfl⟩
  · intro i h
    obtain ⟨-, v, -, rfl⟩ := decodeActive_ok_iff.mp h
    rfl

/-- Row by row: the decoder's arm for the row's opcode guards the argument bits the row reserves (R92, R95). -/
theorem describes_decodeFields : ∀ r ∈ opcodeRows, r.Describes (decodeFields r.opcode) := by
  simp only [opcodeRows, publicRows, microRows, List.cons_append, List.nil_append, List.forall_mem_cons]
  exact ⟨describes_any (f := fun arg => .select arg.toInt) rfl rfl fun _ => rfl,
    describes_guardArg (f := fun _ => .disconnect) rfl fun _ => rfl,
    describes_guardArg (f := fun _ => .status) rfl fun _ => rfl,
    describes_guardArg (f := fun _ => .irq) rfl fun _ => rfl,
    describes_guardArg (f := fun _ => .reset) rfl fun _ => rfl,
    describes_guardArg (f := fun _ => .halt) rfl fun _ => rfl,
    describes_guardArg (f := fun _ => .twDisable) rfl fun _ => rfl,
    describes_guardArg (f := fun _ => .twEnable) rfl fun _ => rfl,
    describes_guardArg (f := fun arg => .twRoute (sideAt arg 0)) rfl fun _ => rfl,
    describes_guardArg (f := fun arg => .muxDisable (sideAt arg 4)) rfl fun _ => rfl,
    describes_guardArg (f := fun arg => .muxEnable (sideAt arg 4)) rfl fun _ => rfl,
    describes_guardArg (f := fun arg => .muxSelect (sideAt arg 4) (arg.extractLsb' 0 2)) rfl fun _ => rfl,
    describes_guardArg (f := fun _ => .decDisable) rfl fun _ => rfl,
    describes_guardArg (f := fun _ => .decEnable) rfl fun _ => rfl,
    describes_guardArg (f := fun arg => .decAddr (arg.extractLsb' 0 3)) rfl fun _ => rfl,
    describes_guardArg (f := fun _ => .expInit) rfl fun _ => rfl,
    describes_guardArg (f := fun _ => .expRead) rfl fun _ => rfl,
    describes_any (f := fun arg => .expWrite arg) rfl rfl fun _ => rfl,
    describes_guardArg (f := fun _ => .waitDebounce) rfl fun _ => rfl,
    describes_guardArg (f := fun _ => .waitSettle) rfl fun _ => rfl,
    describes_decodeActive,
    describes_any (f := fun arg => .setSample arg) rfl rfl fun _ => rfl,
    nofun⟩

/-- The opcode byte of a word that decodes is a row's (R94). -/
theorem exists_opcode_eq {op arg : Byte} {i : Instr} (h : decodeFields op arg = .ok i) : ∃ r ∈ opcodeRows, r.opcode = op := by
  suffices ∃ r ∈ opcodeRows, r.opcode.toNat = op.toNat from
    this.imp fun r ⟨hr, hop⟩ => ⟨hr, BitVec.eq_of_toNat_eq hop⟩
  unfold decodeFields at h
  split at h
  case h_23 => cases h
  all_goals
    rename_i hop
    rw [hop]
    decide

end OpcodeRow

theorem reservedWord_eq_false_iff (w : Word16) : reservedWord w = false ↔ ∃ r ∈ opcodeRows, r.admits w = true := by
  simp only [reservedWord, Bool.not_eq_false', List.any_eq_true]

/-- A word that decodes is admitted by the row of its opcode, which has the operation's mnemonic (R95). -/
theorem exists_admits_of_decode {w : Word16} {i : Instr} (h : decode w = .ok i) :
    ∃ r ∈ opcodeRows, r.mnemonic.toList = i.mnemonic ∧ r.admits w = true := by
  obtain ⟨r, hr, hop⟩ := OpcodeRow.exists_opcode_eq h
  obtain ⟨haccepts, hname⟩ := OpcodeRow.describes_decodeFields r hr (argOf w)
  rw [hop] at haccepts hname
  exact ⟨r, hr, hname i h, (OpcodeRow.admits_iff hr w).mpr ⟨hop.symm, haccepts.mp ⟨i, h⟩⟩⟩

/-- A word a row admits decodes (R95). -/
theorem exists_decode_of_admits {r : OpcodeRow} {w : Word16} (hr : r ∈ opcodeRows) (h : r.admits w = true) :
    ∃ i, decode w = .ok i := by
  obtain ⟨hop, htakes⟩ := (OpcodeRow.admits_iff hr w).mp h
  unfold decode
  rw [hop]
  exact (OpcodeRow.describes_decodeFields r hr (argOf w)).1.mpr htakes

/-- No word matches two rows (R95). -/
theorem eq_of_admits {q r : OpcodeRow} {w : Word16} (hq : q ∈ opcodeRows) (hr : r ∈ opcodeRows) (hqw : q.admits w = true)
    (hrw : r.admits w = true) : q = r :=
  OpcodeRow.eq_of_opcode_eq hq hr
    (((OpcodeRow.admits_iff hq w).mp hqw).1.symm.trans ((OpcodeRow.admits_iff hr w).mp hrw).1)

/-- Settles O3: the row of a word's opcode is the only one that can match it, and it takes the arguments the decoder accepts. -/
theorem opcodeMapIsDecoded : Obligations.OpcodeMapIsDecoded := by
  unfold Obligations.OpcodeMapIsDecoded
  intro w
  rw [reservedWord_eq_false_iff]
  refine ⟨⟨fun ⟨i, h⟩ => ?_, fun ⟨r, hr, hrw⟩ => exists_decode_of_admits hr hrw⟩, fun i h => ?_⟩
  · obtain ⟨r, hr, -, hrw⟩ := exists_admits_of_decode h
    exact ⟨r, hr, hrw⟩
  · obtain ⟨r, hr, hname, hrw⟩ := exists_admits_of_decode h
    exact ⟨r, hr, hname, hrw, fun q hq hqw => eq_of_admits hq hr hqw hrw⟩

end Sys2Proof
end

section
/-! PROOFS. The setters of the route devices and SET_ACTIVE, whoever issues them (R120 to R128, R134, R269): the words of their
operands, one lemma for what they write and leave alone, and the four statements as uses of it. -/

namespace Sys2Proof

/-! ### The words -/

/-- The opcode byte and the argument byte are the two halves of the word (R90). -/
theorem encode_eq_or (i : Instr) : encode i = (i.opcode ++ 0#8) ||| i.argument.setWidth 16 := by
  unfold encode
  rw [BitVec.append_def, BitVec.append_def]
  simp

/-- An operand that is the whole argument byte, zero-extended, stands in the low bits of the word (R92). -/
theorem encode_of_argument {i : Instr} {op : Byte} {k : Nat} {v : BitVec k} (hk : k ≤ 8) (hop : i.opcode = op)
    (hv : i.argument = v.setWidth 8) : encode i = (op ++ 0#8) ||| v.setWidth 16 := by
  rw [encode_eq_or, hop, hv, BitVec.setWidth_setWidth (by omega)]

theorem encode_twRoute (d : Side) : encode (.twRoute d) = 0x1200#16 ||| (BitVec.ofBool d.bit).setWidth 16 := by
  cases d <;> rfl

theorem encode_muxDisable (m : Side) : encode (.muxDisable m) = 0x2000#16 ||| (BitVec.ofBool m.bit).setWidth 16 <<< 4 := by
  cases m <;> rfl

theorem encode_muxEnable (m : Side) : encode (.muxEnable m) = 0x2100#16 ||| (BitVec.ofBool m.bit).setWidth 16 <<< 4 := by
  cases m <;> rfl

theorem encode_muxSelect (m : Side) (n : BitVec 2) :
    encode (.muxSelect m n) = 0x2200#16 ||| (BitVec.ofBool m.bit).setWidth 16 <<< 4 ||| n.setWidth 16 := by
  cases m <;> revert n <;> decide

theorem encode_decAddr (a : BitVec 3) : encode (.decAddr a) = 0x3200#16 ||| a.setWidth 16 :=
  encode_of_argument (op := 0x32#8) (by decide) rfl rfl

theorem encode_setActive (v : Option Port) : encode (.setActive v) = 0x6000#16 ||| (activeCode v).setWidth 16 :=
  encode_of_argument (op := 0x60#8) (by decide) rfl rfl

namespace Machine

/-! ### What a setter that uses no bus does, whoever issues it -/

namespace Selector

@[simp] theorem apply_phase (S : Selector) (i : Instr) : (S.apply i).phase = S.phase := by rw [apply_frame]

/-- `S.mux[m] <- d`, both fields of that switch (R25). -/
def withMux (S : Selector) (m : Side) (d : FourWay) : Selector :=
  match m with
  | .first => { S with mux0 := d }
  | .second => { S with mux1 := d }

theorem apply_muxDisable (S : Selector) (m : Side) : S.apply (.muxDisable m) = S.withMux m ⟨false, (S.mux m).sel⟩ := by
  cases m <;> rfl

theorem apply_muxEnable (S : Selector) (m : Side) : S.apply (.muxEnable m) = S.withMux m ⟨true, (S.mux m).sel⟩ := by
  cases m <;> rfl

theorem apply_muxSelect (S : Selector) (m : Side) (n : BitVec 2) :
    S.apply (.muxSelect m n) = S.withMux m ⟨(S.mux m).en, n⟩ := by
  cases m <;> rfl

/-- A record that differs from `S` in one four-way switch, the label left aside. -/
theorem mux_of_withMux {S T : Selector} {m : Side} {d : FourWay} (h : T = { S.withMux m d with phase := T.phase }) :
    T.mux m = d ∧ T.mux m.other = S.mux m.other ∧ T = { S with mux0 := T.mux0, mux1 := T.mux1, phase := T.phase } := by
  rw [h]
  cases m <;> exact ⟨rfl, rfl, rfl⟩

end Selector

namespace State

theorem markHazard_false (s : State) : s.markHazard false = s := by
  unfold markHazard
  rw [Bool.or_false]

/-- Its own write, with the mark where it breaks a precondition, is all a setter that uses no bus has done when it is traced (R129, R269). -/
theorem exec_busFree (s : State) {i : Instr} (hi : busFree i = true) :
    exec i s = .next (s.afterMicro i (({ s with S := s.S.apply i } : State).markHazard (s.S.breaks i))) := by
  cases i
  case twRoute | decAddr => rfl
  case muxSelect m _ => cases m <;> rfl
  case twDisable | twEnable | decDisable | decEnable | waitDebounce | waitSettle | setActive =>
    simp only [Selector.breaks, markHazard_false]
    rfl
  case muxDisable m | muxEnable m =>
    simp only [Selector.breaks, markHazard_false]
    cases m <;> rfl
  all_goals cases hi

/-- A setter that uses no bus completes in every state, writes its field, and leaves everything else alone (R129); the trace is marked
if it breaks a precondition (R269). -/
theorem exec_completes (s : State) {i : Instr} {mark : Bool} (hi : busFree i = true)
    (hmark : (s.obs.hazard || s.S.breaks i) = mark) :
    ∃ t, exec i s = .next t ∧ t.S = { s.S.apply i with phase := t.S.phase } ∧ s.microFrame i t ∧ t.obs.hazard = mark := by
  have hp : (({ s with S := s.S.apply i } : State).markHazard (s.S.breaks i)).S.phase = s.S.phase := s.S.apply_phase i
  rw [exec_busFree s hi, afterMicro_setter s _ (setter_of_busFree hi) hp]
  exact ⟨_, rfl, rfl, ⟨rfl, rfl, rfl, rfl, rfl⟩, hmark⟩

/-- The same for the setters of a four-way switch: one switch is written, the other is not (R123 to R125). -/
theorem exec_completes_mux (s : State) {i : Instr} {m : Side} {d : FourWay} {mark : Bool} (hi : busFree i = true)
    (happly : s.S.apply i = s.S.withMux m d) (hmark : (s.obs.hazard || s.S.breaks i) = mark) :
    ∃ t, exec i s = .next t ∧ t.S.mux m = d ∧ t.S.mux m.other = s.S.mux m.other ∧
      t.S = { s.S with mux0 := t.S.mux0, mux1 := t.S.mux1, phase := t.S.phase } ∧ s.microFrame i t ∧ t.obs.hazard = mark := by
  obtain ⟨t, hexec, hS, hframe, hhazard⟩ := s.exec_completes hi hmark
  rw [happly] at hS
  obtain ⟨hmux, hother, hrest⟩ := Selector.mux_of_withMux hS
  exact ⟨t, hexec, hmux, hother, hrest, hframe, hhazard⟩

end State

/-! ### The statements -/

/-- Settles O7: the three are setters that use no bus, and a disabled two-way switch closes no data path. -/
theorem twoWaySwitchSetters : Obligations.TwoWaySwitchSetters := by
  unfold Obligations.TwoWaySwitchSetters
  intro s side
  refine ⟨⟨rfl, ?_⟩, ⟨rfl, s.exec_completes rfl (Bool.or_false _)⟩, encode_twRoute side, s.exec_completes rfl rfl⟩
  obtain ⟨t, hexec, hS, hframe, hhazard⟩ := s.exec_completes (i := .twDisable) rfl (Bool.or_false _)
  refine ⟨t, hexec, hS, hframe, hhazard, fun p hpath => ?_⟩
  have hoff : t.S.tw.en = false := by rw [hS]; rfl
  exact Bool.false_ne_true (hoff.symm.trans hpath.1)

/-- Settles O8: the three are setters that use no bus and write the named switch. -/
theorem fourWaySwitchSetters : Obligations.FourWaySwitchSetters := by
  unfold Obligations.FourWaySwitchSetters
  intro s m n
  exact ⟨⟨encode_muxDisable m, s.exec_completes_mux rfl (s.S.apply_muxDisable m) (Bool.or_false _)⟩,
    ⟨encode_muxEnable m, s.exec_completes_mux rfl (s.S.apply_muxEnable m) (Bool.or_false _)⟩,
    encode_muxSelect m n, s.exec_completes_mux rfl (s.S.apply_muxSelect m n) rfl⟩

/-- Settles O9: the three are setters that use no bus, and the power lines follow the decoder's enable and address. -/
theorem decoderSetters : Obligations.DecoderSetters := by
  unfold Obligations.DecoderSetters
  intro s a
  refine ⟨⟨rfl, ?_⟩, ⟨rfl, ?_⟩, encode_decAddr a, s.exec_completes rfl rfl⟩
  · obtain ⟨t, hexec, hS, hframe, hhazard⟩ := s.exec_completes (i := .decDisable) rfl (Bool.or_false _)
    refine ⟨t, hexec, hS, hframe, hhazard, fun k hpwr => ?_⟩
    have hoff : t.S.dec.en = false := by rw [hS]; rfl
    exact Bool.false_ne_true (hoff.symm.trans hpwr.1)
  · obtain ⟨t, hexec, hS, hframe, hhazard⟩ := s.exec_completes (i := .decEnable) rfl (Bool.or_false _)
    refine ⟨t, hexec, hS, hframe, hhazard, fun k => ?_⟩
    have hon : t.S.dec = ⟨true, s.S.dec.addr⟩ := by rw [hS]; rfl
    rw [Selector.pwr, hon]
    exact ⟨fun hpwr => hpwr.2.symm, fun hk => ⟨rfl, hk.symm⟩⟩

/-- Settles O11: SET_ACTIVE is a setter that uses no bus. -/
theorem setActiveWritesActivePort : Obligations.SetActiveWritesActivePort := by
  unfold Obligations.SetActiveWritesActivePort
  intro s v
  exact ⟨encode_setActive v, s.exec_completes rfl (Bool.or_false _)⟩

end Machine

end Sys2Proof
end

section
/-! PROOFS. The route sequencer's two operations that can leave everything as it is, SELECT of the active port and DISCONNECT (R150, R151,
R154, R157, R158): the acceptance of a request, the labels D1 to D5 and the refresh at L1, each a step or a run of its own, and the
two statements composed of them. -/

namespace Sys2Proof.Machine

/-- The index of a port is valid and names it (R17, R82). -/
theorem portOfIndex_port (p : Port) : portOfIndex p.val = some p := by
  revert p; decide

namespace State

variable {s : State} {i : Instr} {rest : List Word16}

/-! ### The bus -/

/-- Using up a bus answer changes the script and the counter of free values only. -/
theorem useBus_eq (s : State) :
    s.useBus = { s with
      env.busScript := s.env.busScript.tail
      env.free := if s.env.busScript.isEmpty then s.env.free + 1 else s.env.free } := by
  unfold useBus
  cases hb : s.env.busScript <;> simp [useFree, hb]

/-! ### The acceptance of a request -/

/-- At IDLE the step is the first waiting operation, its word taken from those that wait (R67). -/
theorem step_request (h : s.aboutToAccept i rest) (hi : i.isPublic = true) :
    step s = exec i { s with env.requests := rest } := by
  obtain ⟨⟨hturns, hbare⟩, hp, w, hreq, hdec⟩ := h
  have hn : s.nextMicro = none := by unfold nextMicro; rw [hp]
  simp [step, hturns, coreMove, hbare, hn, hreq, runRequest, hdec, hi]

/-- SELECT of the active port goes to the refresh (R150). -/
theorem exec_select_active {p : Port} (hh : s.S.halted = false) (hp : s.S.phase = .idle) (ha : s.S.activePort = some p) :
    exec (.select p.val) s = .next ((s.setCtx .cmd).setPhase .l1) := by
  have hd : (s.setCtx .cmd).dispatchPort p = (s.setCtx .cmd).setPhase .l1 := if_pos ha
  simp only [exec, execSelect, portOfIndex_port, accept_taken s _ _ hh hp, hd]

/-- DISCONNECT goes to D1 (R151). -/
theorem exec_disconnect (hh : s.S.halted = false) (hp : s.S.phase = .idle) :
    exec .disconnect s = .next ((s.setCtx .cmd).setPhase .d1) :=
  congrArg Host.Outcome.next (accept_taken s _ _ hh hp)

/-! ### The labels D1 to D5 and L1 -/

/-- A setter issued by the sequencer that breaks no precondition leaves the mark alone (R129, R269). -/
theorem step_setter_keeping (hm : s.coreMoves) (hi : busFree i = true) (hn : s.nextMicro = some i) (hb : s.S.breaks i = false) :
    step s = .next { s with
      S := { s.S.apply i with phase := s.S.phase.succ }
      obs.trace := .done s.S.phase (encode i) :: s.obs.trace } := by
  rw [step_setter s hm hi hn, hb, Bool.or_false]

/-- What `disconnectAll()` writes into the trace, newest first (R154). -/
def disconnectTrace : List TraceEntry :=
  [.done .d5 (encode (.setActive none)), .done .d4 (encode .decDisable), .done .d3 (encode (.muxDisable .second)),
    .done .d2 (encode (.muxDisable .first)), .done .d1 (encode .twDisable)]

/-- The five steps of `disconnectAll()`, whoever started it: every device off, nothing connected, and on to the refresh (R154, R155). -/
theorem run_disconnectAll (hm : s.coreMoves) (k : Nat) :
    Host.Core.run Sys2Proof.core (k + 5) (s.setPhase .d1) =
      Host.Core.run Sys2Proof.core k { s with
        S := { s.S with
          activePort := none, tw := ⟨false, s.S.tw.side⟩, mux0 := ⟨false, s.S.mux0.sel⟩, mux1 := ⟨false, s.S.mux1.sel⟩
          dec := ⟨false, s.S.dec.addr⟩, phase := .l1 }
        obs.trace := disconnectTrace ++ s.obs.trace } :=
  run_step _ (step_setter_keeping (i := .twDisable) hm rfl rfl rfl) <|
  run_step _ (step_setter_keeping (i := .muxDisable .first) hm rfl rfl rfl) <|
  run_step _ (step_setter_keeping (i := .muxDisable .second) hm rfl rfl rfl) <|
  run_step _ (step_setter_keeping (i := .decDisable) hm rfl rfl rfl) <|
  run_step _ (step_setter_keeping (i := .setActive none) hm rfl rfl rfl) rfl

/-- A refresh whose write completes shows `activePort`; where it goes then depends on who started it (R112, R173). -/
theorem step_refresh (hm : s.coreMoves) (hp : s.S.phase = .l1) (hb : s.busAnswer = .ok) :
    step s = .next ((s.useBus.setLed (ledByte s.par.table s.S.activePort)).record
      (.done .l1 (encode (.expWrite (ledByte s.par.table s.S.activePort))))).afterRefresh := by
  have hn : s.nextMicro = some (.expWrite (ledByte s.par.table s.S.activePort)) := by unfold nextMicro; rw [hp]
  obtain ⟨hturns, hbare⟩ := hm
  have hs : step s = .next (s.expWrite (ledByte s.par.table s.S.activePort)) := by
    simp [step, hturns, coreMove, hbare, hn, exec, execExpWrite]
  rw [hs]
  unfold expWrite
  rw [hb, afterMicro_own s _ hn, advance_l1 (by simpa using hp), hp]

/-- The refresh of a command ends it: IDLE and `OK` to the caller (R98, R173). -/
theorem step_refresh_cmd (hm : s.coreMoves) (hp : s.S.phase = .l1) (hc : s.S.ctx = .cmd) (hb : s.busAnswer = .ok) :
    step s = .next { s with
      S := { s.S with led := ledByte s.par.table s.S.activePort, phase := .idle }
      env := s.useBus.env
      obs := { s.obs with
        responses := ⟨.caller, .ok, none⟩ :: s.obs.responses
        trace := .done .l1 (encode (.expWrite (ledByte s.par.table s.S.activePort))) :: s.obs.trace } } := by
  rw [step_refresh hm hp hb, useBus_eq]
  simp [afterRefresh, finish, recipient, respond, setPhase, setLed, record, hp, hc, Phase.isReset]

end State

/-! ### The end of a DISCONNECT -/

/-- The record after a DISCONNECT: nothing connected, every device off, the idle LED byte (R151, R154, R170). -/
def Selector.disconnected (S : Selector) : Selector :=
  { S with
    activePort := none, tw := ⟨false, S.tw.side⟩, mux0 := ⟨false, S.mux0.sel⟩, mux1 := ⟨false, S.mux1.sel⟩
    dec := ⟨false, S.dec.addr⟩, led := 0xFF#8, ctx := .cmd }

theorem Selector.disconnected_disconnected (S : Selector) : S.disconnected.disconnected = S.disconnected := rfl

/-- Of a record that shows nothing connected, with every device off, only `ctx` changes. -/
theorem Selector.disconnected_of_allOff {S : Selector} (ha : S.activePort = none) (hoff : S.allOff) (hl : S.led = 0xFF#8) :
    S.disconnected = { S with ctx := .cmd } := by
  obtain ⟨htw, h0, h1, hdec⟩ := hoff
  rw [disconnected, ← ha, ← hl, show (⟨false, S.tw.side⟩ : TwoWay) = S.tw from htw ▸ rfl,
    show (⟨false, S.mux0.sel⟩ : FourWay) = S.mux0 from h0 ▸ rfl, show (⟨false, S.mux1.sel⟩ : FourWay) = S.mux1 from h1 ▸ rfl,
    show (⟨false, S.dec.addr⟩ : Decoder) = S.dec from hdec ▸ rfl]

namespace State

variable {s : State} {rest : List Word16}

/-- The state after a DISCONNECT behind which `rest` waits. -/
def disconnected (s : State) (rest : List Word16) : State where
  S := s.S.disconnected
  par := s.par
  env := { s.useBus.env with requests := rest }
  obs :=
    { s.obs with
      responses := ⟨.caller, .ok, none⟩ :: s.obs.responses
      trace := .done .l1 (encode (.expWrite 0xFF#8)) :: disconnectTrace ++ s.obs.trace }

/-- DISCONNECT runs seven steps: its acceptance, `disconnectAll()` and the refresh (R151). -/
theorem run_disconnect (hh : s.S.halted = false) (h : s.aboutToAccept .disconnect rest) (hb : s.busAnswer = .ok) (k : Nat) :
    Host.Core.run Sys2Proof.core (k + 7) s = Host.Core.run Sys2Proof.core k (s.disconnected rest) := by
  have ⟨hm, hp, _⟩ := h
  refine run_step _ ((step_request h rfl).trans (exec_disconnect hh hp)) <|
    (run_disconnectAll (s := ({ s with env.requests := rest } : State).setCtx .cmd) hm (k + 1)).trans ?_
  refine run_step _ (step_refresh_cmd hm rfl rfl hb) ?_
  rw [useBus_eq, disconnected, useBus_eq, Selector.disconnected, hp]
  rfl

/-- After the first of two waiting DISCONNECTs the second is about to be accepted. -/
theorem aboutToAccept_disconnected (h : s.aboutToAccept .disconnect (encode .disconnect :: rest)) :
    (s.disconnected (encode .disconnect :: rest)).aboutToAccept .disconnect rest := by
  obtain ⟨⟨hturns, hbare⟩, hp, -⟩ := h
  exact ⟨⟨s.useBus_turns.trans hturns, s.useBus_bare.trans hbare⟩, hp, encode .disconnect, rfl, rfl⟩

end State

/-! ### The statements -/

/-- Settles O39: the acceptance leads to the refresh, which writes the byte `LedInv` says is shown. -/
theorem selectActivePortIsNoOp : Obligations.SelectActivePortIsNoOp := by
  unfold Obligations.SelectActivePortIsNoOp
  intro s p rest hh h ha hb hled
  have ⟨hm, hp, _⟩ := h
  refine ⟨_, State.run_step _ ((State.step_request h rfl).trans (State.exec_select_active hh hp ha)) <|
    State.run_step _ (State.step_refresh_cmd hm rfl rfl hb) rfl, ?_, ?_, rfl⟩
  · simp only [State.setPhase, State.setCtx, ← hled, ← hp]
  · simp only [State.setPhase, State.setCtx, ← hled]

/-- Settles O40: the record at the end of a DISCONNECT is the one it began with, if nothing was connected, and the one a second ends with. -/
theorem disconnectIsIdempotent : Obligations.DisconnectIsIdempotent := by
  unfold Obligations.DisconnectIsIdempotent
  intro s rest hh hb
  refine ⟨fun h ha hr hl => ?_, fun h hb' => ?_⟩
  · have hoff : s.S.allOff := by simpa only [Selector.routeInv, ha] using hr
    exact ⟨_, State.run_disconnect hh h hb 0, Selector.disconnected_of_allOff ha hoff hl⟩
  · have hb2 : (s.disconnected (encode .disconnect :: rest)).busAnswer = .ok :=
      (State.busAnswer_congr rfl rfl).trans hb'
    exact ⟨_, _, State.run_disconnect hh h hb 0,
      (State.run_disconnect hh h hb 7).trans
        (State.run_disconnect (s := s.disconnected _) hh (State.aboutToAccept_disconnected h) hb2 0),
      s.S.disconnected_disconnected⟩

end Sys2Proof.Machine
end

section
/-! PROOFS. The reflection function (R170): a byte `onecold k` has its one cold bit at `k`, so it is neither the idle byte nor the byte of
another bit, and a well-formed table gives no two ports the same bit. -/

namespace Sys2Proof.Machine

/-! ### One cold bit -/

theorem getLsbD_onecold (j k : BitPos) : (onecold j).getLsbD k = false ↔ k = j := by
  rw [onecold, ← BitVec.twoPow_eq, BitVec.getLsbD_not, BitVec.getLsbD_twoPow]
  simp only [j.isLt, k.isLt, decide_true, Bool.true_and, Bool.not_eq_false', decide_eq_true_eq]
  exact Fin.val_inj.trans eq_comm

theorem onecold_eq_xor (k : BitPos) : onecold k = 0xFF#8 ^^^ (1#8 <<< k.val) :=
  BitVec.allOnes_xor.symm

theorem onecold_injective : Function.Injective onecold := fun j k h =>
  (getLsbD_onecold k j).mp (h ▸ (getLsbD_onecold j j).mpr rfl)

theorem onecold_ne_allOnes (k : BitPos) : onecold k ≠ BitVec.allOnes 8 := fun h => by
  have hcold : (BitVec.allOnes 8).getLsbD k = false := h ▸ (getLsbD_onecold k k).mpr rfl
  rw [BitVec.getLsbD_allOnes, decide_eq_false_iff_not] at hcold
  exact hcold k.isLt

/-! ### The byte of a port, and of no port -/

section

variable {t : PortTable}

theorem ledByte_none : ledByte t none = BitVec.allOnes 8 := rfl

theorem ledByte_some (p : Port) : ledByte t (some p) = onecold (t.get p).outputBit := rfl

theorem ledByte_some_ne_none (p : Port) : ledByte t (some p) ≠ ledByte t none :=
  onecold_ne_allOnes _

/-- The byte identifies the port, because `outputBit` does (R34, R170). -/
theorem ledByte_injective (ht : t.wf) : Function.Injective (ledByte t) := by
  obtain ⟨-, -, houtput⟩ := ht
  intro a b h
  match a, b with
  | none, none => rfl
  | none, some q => exact absurd h.symm (ledByte_some_ne_none q)
  | some p, none => exact absurd h (ledByte_some_ne_none p)
  | some p, some q => exact congrArg some (houtput p q (onecold_injective h))

end

/-! ### The statement -/

/-- Settles O36: each clause is a fact about `onecold` at the port's `outputBit`; the values under `T0` are computed. -/
theorem ledByteShowsActivePort : Obligations.LedByteShowsActivePort := by
  unfold Obligations.LedByteShowsActivePort
  intro t ht
  refine ⟨ledByte_none, fun p k => ?_, fun p => ?_, fun a b h => ledByte_injective ht h, by decide⟩
  · rw [ledByte_some, getLsbD_onecold]
  · rw [ledByte_some, onecold_eq_xor]

end Sys2Proof.Machine
end

section
/-! PROOFS. The edge detector (R185 to R193): the rising bits, the priority mux as the search for the least port, the handler's decision
after its read, and the two interrupts that select nothing, composed of the handler's steps. -/

namespace Sys2Proof.Machine

/-! ### The rising bits -/

section

variable (last smp : Byte)

theorem getLsbD_risingBits (k : BitPos) :
    (risingBits last smp).getLsbD k = (!last.getLsbD k && smp.getLsbD k) := by
  simp [risingBits]

/-- A rising bit is a changed bit that is 1 in the new sample (R188). -/
theorem risingBits_eq_changedBits_and : risingBits last smp = changedBits last smp &&& smp := by
  unfold risingBits changedBits
  ext k
  simp only [BitVec.getElem_and, BitVec.getElem_not, BitVec.getElem_xor]
  cases last[k] <;> cases smp[k] <;> rfl

/-- Without a change nothing rises. -/
theorem risingBits_of_unchanged (h : changedBits last smp = 0#8) : risingBits last smp = 0#8 := by
  rw [risingBits_eq_changedBits_and, h, BitVec.zero_and]

end

/-- Settles O35: bit by bit, a rising bit is a changed one. -/
theorem risingEdgesArePressedThenReleased : Obligations.RisingEdgesArePressedThenReleased := by
  unfold Obligations.RisingEdgesArePressedThenReleased
  intro last smp
  refine ⟨fun k => ?_, ?_, risingBits_eq_changedBits_and last smp⟩
  · rw [getLsbD_risingBits, Bool.and_eq_true, Bool.not_eq_true']
  · rw [risingBits_eq_changedBits_and, BitVec.and_assoc, BitVec.and_comm smp, ← BitVec.and_assoc, BitVec.and_self]

/-! ### The priority mux -/

section

variable {t : PortTable} {rising : Byte} {p : Port}

/-- The scan goes through the ports in the order of their indices (R189). -/
theorem prio_eq_find? (t : PortTable) (rising : Byte) :
    prio t rising = Fin.find? fun q : Port => rising.getLsbD (t.get q).inputBit :=
  Fin.find?_eq_find?_finRange.symm

/-- The priority mux answers the least port whose input bit rose (R189). -/
theorem prio_eq_some_iff :
    prio t rising = some p ↔
      rising.getLsbD (t.get p).inputBit = true ∧ ∀ q < p, rising.getLsbD (t.get q).inputBit = false := by
  rw [prio_eq_find?, Fin.find?_eq_some_iff]

theorem prio_zero : prio t 0#8 = none := by
  rw [prio_eq_find?, Fin.find?_eq_none_iff]
  exact fun _ => BitVec.getLsbD_zero

/-- Every bit position is some port's input bit (R34). -/
theorem exists_inputBit_eq (ht : t.wf) (k : BitPos) : ∃ p, (t.get p).inputBit = k := by
  obtain ⟨-, hinput, -⟩ := ht
  exact Finite.surjective_of_injective (f := fun p => (t.get p).inputBit) (fun p q => hinput p q) k

/-- A well-formed table has a port for every bit that can rise (R34, R189, R226). -/
theorem exists_prio_eq_some (ht : t.wf) (h : rising ≠ 0#8) : ∃ p, prio t rising = some p := by
  rw [← Option.isSome_iff_exists, prio_eq_find?, Fin.isSome_find?_iff]
  by_contra hnone
  refine h (BitVec.eq_of_getLsbD_eq fun k hk => ?_)
  obtain ⟨p, hp⟩ := exists_inputBit_eq ht ⟨k, hk⟩
  simp only [not_exists, Bool.not_eq_true] at hnone
  simpa [hp] using hnone p

end

/-! ### The handler's decision -/

namespace State

variable {s : State} {b : Byte} {p : Port}

theorem finish_S (s : State) : s.finish.S = { s.S with phase := .idle } := rfl

@[simp] theorem finish_trace (s : State) : s.finish.obs.trace = s.obs.trace := rfl

/-- An unchanged sample is discarded (R187). -/
theorem dispatchEdge_discard (h : changedBits s.S.lastSample s.S.smp = 0#8) : s.dispatchEdge = s.finish :=
  if_pos h

/-- A press alone goes on to I3 (R189, R193). -/
theorem dispatchEdge_absorb (hc : changedBits s.S.lastSample s.S.smp ≠ 0#8)
    (hr : risingBits s.S.lastSample s.S.smp = 0#8) : s.dispatchEdge = s.setPhase .i3 := by
  unfold dispatchEdge
  rw [if_neg hc, hr, prio_zero]

/-- A release selects the port the priority mux answers (R189). -/
theorem dispatchEdge_select (h : prio s.par.table (risingBits s.S.lastSample s.S.smp) = some p) :
    s.dispatchEdge = s.dispatchPort p := by
  have hc : changedBits s.S.lastSample s.S.smp ≠ 0#8 := by
    intro hc
    rw [risingBits_of_unchanged _ _ hc, prio_zero] at h
    cases h
  unfold dispatchEdge
  rw [if_neg hc, h]

/-- The state after the handler's read of the byte `b` at I2, before its decision (R111, R187). -/
def afterRead (s : State) (b : Byte) : State :=
  ((s.useRead.setSmp b).clearLatch s.readNotice).record (.done .i2 (encode .expRead))

theorem afterRead_S (s : State) (b : Byte) : (s.afterRead b).S = { s.S with smp := b, intLatch := false } := by
  simp [afterRead, setSmp_S]

@[simp] theorem afterRead_smp (s : State) (b : Byte) : (s.afterRead b).S.smp = b := by
  rw [afterRead_S]

@[simp] theorem afterRead_par (s : State) (b : Byte) : (s.afterRead b).par = s.par := by
  simp [afterRead]

@[simp] theorem afterRead_trace (s : State) (b : Byte) :
    (s.afterRead b).obs.trace = .done .i2 (encode .expRead) :: s.obs.trace := by
  simp [afterRead]

/-- A read leaves it to the core to move. -/
theorem coreMoves_afterRead (hm : s.coreMoves) : (s.afterRead b).coreMoves := by
  obtain ⟨hturns, hbare⟩ := hm
  have henv := clearLatch_env (s.useRead.setSmp b) s.readNotice
  exact ⟨(congrArg Env.turns henv).trans (s.useRead_turns.trans hturns),
    (congrArg Env.bare henv).trans (s.useRead_bare.trans hbare)⟩

/-- A well-formed table never refuses the handler's read (R273, U12). -/
theorem noPortForEdge_eq_false (ht : s.par.table.wf) : s.noPortForEdge = false := by
  unfold noPortForEdge
  split
  · split
    · next b _ =>
      by_cases h : risingBits s.S.lastSample b = 0#8
      · simp [h]
      · obtain ⟨p, hp⟩ := exists_prio_eq_some ht h
        simp [hp]
    · rfl
  · rfl

/-- With the core to move, a step at a label is the micro-operation it names (R28). -/
theorem step_micro {i : Instr} (hm : s.coreMoves) (hn : s.nextMicro = some i) : step s = exec i s := by
  obtain ⟨hturns, hbare⟩ := hm
  simp [step, hturns, coreMove, hbare, hn]

/-- The handler's read, followed by its decision (R187 to R189). -/
theorem step_read (hm : s.coreMoves) (hp : s.S.phase = .i2) (ht : s.par.table.wf) (hb : s.readByte = some b) :
    step s = .next (s.afterRead b).dispatchEdge := by
  have hn : s.nextMicro = some .expRead := by unfold nextMicro; rw [hp]
  have hexec : exec .expRead s = .next s.expRead := if_neg (by simp [noPortForEdge_eq_false ht])
  rw [step_micro hm hn, hexec, expRead, hb]
  simp only [afterMicro_own s _ hn, hp]
  rw [advance_i2 (by simpa using hp), afterRead]

end State

/-- Settles O33: the step is the read followed by the decision, one case of the decision for each clause. -/
theorem edgeDecision : Obligations.EdgeDecision := by
  unfold Obligations.EdgeDecision
  intro s b hm hp ht hb
  have hS : (s.afterRead b).S = { s.S with smp := b, intLatch := false } := s.afterRead_S b
  refine ⟨fun hr => ?_, _, State.step_read hm hp ht hb, fun hc => ?_, fun hc hr => ?_, fun p hbit hleast => ?_⟩
  · obtain ⟨p, h⟩ := exists_prio_eq_some ht hr
    exact ⟨p, prio_eq_some_iff.mp h⟩
  · rw [State.dispatchEdge_discard (by rw [hS]; exact hc), State.finish_S, hS]
  · rw [State.dispatchEdge_absorb (by rw [hS]; exact hc) (by rw [hS]; exact hr), State.setPhase_S, hS]
  · have hprio : prio s.par.table (risingBits s.S.lastSample b) = some p := prio_eq_some_iff.mpr ⟨hbit, hleast⟩
    rw [State.dispatchEdge_select (p := p) (by rw [hS, State.afterRead_par]; exact hprio), State.dispatchPort_S, hS]

/-! ### The handler's other steps -/

namespace State

variable {s : State} {b : Byte} {rest : List Word16}

/-- IRQ enters the handler at I1 (R185, R229). -/
theorem exec_irq (hh : s.S.halted = false) (hp : s.S.phase = .idle) :
    exec .irq s = .next ((s.setCtx .irq).setPhase .i1) := by
  simp only [exec, execIrq, hh, Bool.false_eq_true, if_false, accept_taken s _ _ hh hp]

/-- The state in which the handler is about to read: the request is taken and the debounce wait is over (R185, R186). -/
def atRead (s : State) (rest : List Word16) : State :=
  { s with
    S := { s.S with ctx := .irq, phase := .i2 }
    env.requests := rest
    obs.trace := .done .i1 (encode .waitDebounce) :: s.obs.trace }

/-- An interrupt is accepted and debounced in two steps (R185, R186). -/
theorem run_irq_to_read (hh : s.S.halted = false) (h : s.aboutToAccept .irq rest) (k : Nat) :
    Host.Core.run Sys2Proof.core (k + 2) s = Host.Core.run Sys2Proof.core k (s.atRead rest) := by
  have ⟨hm, hp, _⟩ := h
  exact run_step _ ((step_request h rfl).trans (exec_irq hh hp)) <|
    run_step _ (step_setter_keeping (i := .waitDebounce) hm rfl rfl rfl) rfl

/-- The whole run of the handler up to its decision: three steps (R185 to R189). -/
theorem run_irq_to_decision (hh : s.S.halted = false) (h : s.aboutToAccept .irq rest) (ht : s.par.table.wf)
    (hb : s.readByte = some b) (k : Nat) :
    Host.Core.run Sys2Proof.core (k + 3) s = Host.Core.run Sys2Proof.core k ((s.atRead rest).afterRead b).dispatchEdge := by
  have ⟨hm, _⟩ := h
  have hb' : (s.atRead rest).readByte = some b := (readByte_congr rfl rfl rfl).trans hb
  exact (run_irq_to_read hh h (k + 1)).trans (run_step k (step_read hm rfl ht hb') rfl)

/-- The handler's last step makes the sample the reference and ends at IDLE (R135, R190). -/
theorem step_i3 (hm : s.coreMoves) (hp : s.S.phase = .i3) :
    step s = .next ((s.setSample s.S.smp).record (.done .i3 (encode (.setSample s.S.smp)))).finish := by
  have hn : s.nextMicro = some (.setSample s.S.smp) := by unfold nextMicro; rw [hp]
  have hexec : exec (.setSample s.S.smp) s = .next (s.afterMicro (.setSample s.S.smp) (s.setSample s.S.smp)) := rfl
  rw [step_micro hm hn, hexec, afterMicro_own s _ hn, advance_i3 (by simpa using hp), hp]

end State

/-- Settles O42: after the three steps to the decision an unchanged sample ends the handler, and a press alone leaves it the last write. -/
theorem interruptsThatSelectNothing : Obligations.InterruptsThatSelectNothing := by
  unfold Obligations.InterruptsThatSelectNothing
  intro s b rest hh h ht hb
  have ⟨hm, hp, _⟩ := h
  have hS := (s.atRead rest).afterRead_S b
  refine ⟨fun hc => ?_, fun hc hr => ?_⟩
  · have hrun := State.run_irq_to_decision hh h ht hb 0
    rw [State.dispatchEdge_discard (by rw [hS]; exact hc)] at hrun
    refine ⟨_, hrun, ?_, ?_⟩
    · rw [State.finish_S, hS, State.atRead, ← hp]
    · rw [State.finish_trace, State.afterRead_trace]
      rfl
  · have hrun := State.run_irq_to_decision hh h ht hb 1
    have hm' : (((s.atRead rest).afterRead b).setPhase .i3).coreMoves := State.coreMoves_afterRead (s := s.atRead rest) hm
    rw [State.dispatchEdge_absorb (by rw [hS]; exact hc) (by rw [hS]; exact hr),
      State.run_step 0 (State.step_i3 hm' rfl) rfl, State.setPhase_smp, State.afterRead_smp] at hrun
    refine ⟨_, hrun, ?_, ?_⟩
    · rw [State.finish_S, State.record_S, State.setSample_S, State.setPhase_S, hS, State.atRead, ← hp]
    · rw [State.finish_trace, State.record_trace, State.setSample_obs, State.setPhase_obs, State.afterRead_trace]
      rfl

end Sys2Proof.Machine
end

section
/-! PROOFS. STATUS, the halted core and HALT (R97, R200, R206, R207): the fields of the status word, the refusals of a halted core by the
acceptance the public operations share, and HALT composed of its acceptance, `disconnectAll()` and a refresh that ends it whatever the
bus answers. -/

namespace Sys2Proof.Machine

/-! ### The status word -/

/-- A bit of the word lies in one of the nine appended pieces, and each one-bit piece is a control value (R97). -/
theorem Selector.statusWord_flags (S : Selector) :
    S.statusWord.getLsbD 11 = S.tw.en ∧ S.statusWord.getLsbD 10 = S.tw.side.bit ∧ S.statusWord.getLsbD 9 = S.mux0.en ∧
      S.statusWord.getLsbD 6 = S.mux1.en ∧ S.statusWord.getLsbD 3 = S.dec.en := by
  simp only [statusWord, BitVec.getLsbD_append]
  simp

/-- A longer field is the last piece of the word that is left when the pieces below it are dropped (R97). -/
theorem Selector.statusWord_numbers (S : Selector) :
    S.statusWord.extractLsb' 12 4 = activeCode S.activePort ∧ S.statusWord.extractLsb' 7 2 = S.mux0.sel ∧
      S.statusWord.extractLsb' 4 2 = S.mux1.sel ∧ S.statusWord.extractLsb' 0 3 = S.dec.addr := by
  simp (disch := decide) only [statusWord, BitVec.extractLsb'_append_eq_of_le, Nat.reduceSub,
    BitVec.extractLsb'_append_eq_right, BitVec.extractLsb'_eq_self, and_self]

namespace State

variable {s : State}

/-- STATUS at IDLE gives the status word and does nothing else (R200). -/
theorem exec_status (hh : s.S.halted = false) (hp : s.S.phase = .idle) :
    exec .status s = .next (s.respond .caller .ok (some s.S.statusWord)) :=
  congrArg Host.Outcome.next (accept_taken s _ _ hh hp)

end State

/-- Settles O19: the response carries the word whose fields are known, and IDLE is a settled point of the invariant. -/
theorem statusReports : Obligations.StatusReports := by
  unfold Obligations.StatusReports
  intro s hp hh
  obtain ⟨htw, hside, hmux0, hmux1, hdec⟩ := s.S.statusWord_flags
  obtain ⟨hactive, hsel0, hsel1, haddr⟩ := s.S.statusWord_numbers
  exact ⟨rfl, ⟨_, State.exec_status hh hp, hactive, htw, hside, hmux0, hsel0, hmux1, hsel1, hdec, haddr⟩,
    fun h => (h.settled_idle hp hh).route⟩

/-! ### The halted core -/

namespace State

variable {s : State}

/-- The public operations a halted core answers: all but IRQ and RESET (R207). -/
theorem exec_halted {i : Instr} (hi : i.isPublic = true) (hirq : i ≠ .irq) (hreset : i ≠ .reset) (hh : s.S.halted = true) :
    exec i s = .next (s.respond .caller .eHalted none) := by
  cases i
  case select | disconnect | status | halt => exact congrArg Host.Outcome.next (accept_halted s _ _ hh)
  case irq => exact absurd rfl hirq
  case reset => exact absurd rfl hreset
  all_goals cases hi

/-- A halted core drops IRQ (R113, R207). -/
theorem exec_irq_halted (hh : s.S.halted = true) : exec .irq s = .next s :=
  congrArg Host.Outcome.next (if_pos hh)

/-- RESET at IDLE goes to Z1, whether the core is halted or not (R203). -/
theorem exec_reset_idle (hp : s.S.phase = .idle) : ∃ t, exec .reset s = .next t ∧ t.S.phase = .z1 := by
  obtain ⟨l, n, hrefuse, -⟩ := refuseWaiting_cases (((s.setFaultSeen false).setHalted true).setPhase .z1) rfl
  exact ⟨_, congrArg Host.Outcome.next (if_pos hp), by rw [hrefuse]; rfl⟩

end State

/-- Settles O20: a halted core answers every operation that goes through the common acceptance, drops IRQ, and lets RESET begin. -/
theorem haltedCoreRefuses : Obligations.HaltedCoreRefuses := by
  unfold Obligations.HaltedCoreRefuses
  intro s idx hh
  refine ⟨fun i hi => ?_, State.exec_irq_halted hh, State.exec_reset_idle⟩
  simp only [List.mem_cons, List.not_mem_nil, or_false] at hi
  obtain rfl | rfl | rfl | rfl := hi <;> exact State.exec_halted rfl nofun nofun hh

/-! ### HALT -/

namespace State

variable {s : State} {rest : List Word16}

/-- HALT goes to D1 on behalf of itself (R206). -/
theorem exec_halt (hh : s.S.halted = false) (hp : s.S.phase = .idle) :
    exec .halt s = .next ((s.setCtx .halt).setPhase .d1) :=
  congrArg Host.Outcome.next (accept_taken s _ _ hh hp)

/-- After its refresh HALT ends (R173). -/
theorem afterRefresh_halt (hc : s.S.ctx = .halt) : s.afterRefresh = s.endHalt := by
  unfold afterRefresh
  rw [hc]

/-- The end of HALT writes `halted` and the label (R173, R206). -/
theorem endHalt_S (s : State) : s.endHalt.S = { s.S with halted := true, phase := .idle } := rfl

theorem endHalt_responses (s : State) : s.endHalt.obs.responses = ⟨.caller, .ok, none⟩ :: s.obs.responses := rfl

/-- A refresh whose write fails raises the fault, `led` being unspecified then (R112, R214). -/
theorem step_refresh_busfail (hm : s.coreMoves) (hp : s.S.phase = .l1) (hb : s.busAnswer = .busfail) :
    step s = .next ((s.useBus.record
      (.failed .l1 (encode (.expWrite (ledByte s.par.table s.S.activePort))) .write)).losesLed.raiseBusFault .write) := by
  have hn : s.nextMicro = some (.expWrite (ledByte s.par.table s.S.activePort)) := by unfold nextMicro; rw [hp]
  have hexec : exec (.expWrite (ledByte s.par.table s.S.activePort)) s =
    .next (s.expWrite (ledByte s.par.table s.S.activePort)) := rfl
  rw [step_micro hm hn, hexec, expWrite, hb, hp]

/-- The refresh of HALT ends it whatever the bus answers: the core is halted and `OK` is given; a failure is remembered in `faultSeen` and
leaves nothing but `led` unspecified (R173, R206). -/
theorem step_refresh_halt (hm : s.coreMoves) (hp : s.S.phase = .l1) (hc : s.S.ctx = .halt) :
    ∃ t, step s = .next t ∧
      t.S = { s.S with led := t.S.led, faultSeen := t.S.faultSeen, halted := true, phase := .idle } ∧
      t.obs.responses = ⟨.caller, .ok, none⟩ :: s.obs.responses ∧
      (s.busAnswer = .ok → t.S.led = ledByte s.par.table s.S.activePort ∧ t.S.faultSeen = s.S.faultSeen) ∧
      (s.busAnswer = .busfail → t.S.faultSeen = true) := by
  cases hb : s.busAnswer with
  | ok =>
    refine ⟨_, step_refresh hm hp hb, ?_⟩
    rw [afterRefresh_halt (by simpa using hc)]
    simp [endHalt_S, endHalt_responses, setLed_S]
  | busfail =>
    refine ⟨_, step_refresh_busfail hm hp hb, ?_⟩
    rw [raiseBusFault_halt _ (by simpa using hp) (by simpa using hc)]
    simp [endHalt_S, endHalt_responses, setFaultSeen]

/-- The state in which HALT is about to refresh the LEDs: nothing is connected and every route device is off (R154, R206). -/
def atHaltRefresh (s : State) (rest : List Word16) : State :=
  { s with
    S := { s.S with
      activePort := none, tw := ⟨false, s.S.tw.side⟩, mux0 := ⟨false, s.S.mux0.sel⟩, mux1 := ⟨false, s.S.mux1.sel⟩
      dec := ⟨false, s.S.dec.addr⟩, ctx := .halt, phase := .l1 }
    env.requests := rest
    obs.trace := disconnectTrace ++ s.obs.trace }

/-- HALT reaches its refresh in six steps, none of which can fail (R206). -/
theorem run_halt_to_refresh (hh : s.S.halted = false) (h : s.aboutToAccept .halt rest) (k : Nat) :
    Host.Core.run Sys2Proof.core (k + 6) s = Host.Core.run Sys2Proof.core k (s.atHaltRefresh rest) := by
  have ⟨hm, hp, _⟩ := h
  exact run_step _ ((step_request h rfl).trans (exec_halt hh hp)) <|
    run_disconnectAll (s := ({ s with env.requests := rest } : State).setCtx .halt) hm k

end State

/-- Settles O45: the devices are off and nothing is connected before the one write that can fail, and the refresh ends HALT on either
answer of the bus. -/
theorem haltDisconnectsWhateverTheBusDoes : Obligations.HaltDisconnectsWhateverTheBusDoes := by
  unfold Obligations.HaltDisconnectsWhateverTheBusDoes
  intro s rest hh h
  have ⟨hm, hp, _⟩ := h
  obtain ⟨t, hrefresh, hS, hresp, hok, hfail⟩ := State.step_refresh_halt (s := s.atHaltRefresh rest) hm rfl rfl
  refine ⟨rfl, ⟨_, (State.step_request h rfl).trans (State.exec_halt hh hp), rfl⟩,
    t, (State.run_halt_to_refresh hh h 1).trans (State.run_step 0 hrefresh rfl), ?_, ?_, ?_, ?_, hresp, hok, hfail⟩
  · rw [hS]
  · rw [hS]
  · rw [hS]; exact ⟨rfl, rfl, rfl, rfl⟩
  · rw [hS]; rfl

end Sys2Proof.Machine
end

section
/-! PROOFS. The word and the operation (R59, R90 to R95): decoding gives the encoded operation back, and what decodes is encoded by the
word it came from, operand form by operand form. -/

namespace Sys2Proof

/-! ### From the operation to its word and back -/

/-- Every operand is read back from its word, a SELECT index as a signed byte (R91, R92). -/
theorem decode_encode {i : Instr} (hi : i.wf = true) : decode (encode i) = .ok i := by
  rw [decode_encode_fields]
  cases i
  case select idx =>
    simp only [Instr.wf, Bool.and_eq_true, decide_eq_true_eq] at hi
    obtain ⟨hlow, hhigh⟩ := hi
    have hidx : (BitVec.ofInt 8 idx).toInt = idx := by
      rw [BitVec.toInt_ofInt]
      exact Int.bmod_eq_of_le (by omega) (by omega)
    exact congrArg (fun n => Except.ok (Instr.select n)) hidx
  case twRoute d | muxDisable d | muxEnable d => cases d <;> rfl
  case muxSelect m n => cases m <;> revert n <;> decide
  case decAddr a => revert a; decide
  case setActive v =>
    refine decodeActive_ok_iff.mpr ?_
    rcases v with _ | p
    · exact ⟨rfl, none, rfl, rfl⟩
    · exact ⟨by revert p; decide, some p, by revert p; decide, rfl⟩
  all_goals rfl

/-- Settles O1: the decoder reads every operand from where the encoder puts it. -/
theorem decodeInvertsEncode : Obligations.DecodeInvertsEncode := by
  unfold Obligations.DecodeInvertsEncode
  exact fun i hi => decode_encode hi

/-! ### From the word to the operation and back -/

/-- The operation is the one that the opcode byte and the argument byte name (R90). -/
structure Instr.HasBytes (i : Instr) (op arg : Byte) : Prop where
  wf : i.wf = true
  opcode : op.toNat = i.opcode.toNat
  argument : i.argument = arg

theorem Instr.HasBytes.encode_eq {i : Instr} {w : Word16} (h : i.HasBytes (opOf w) (argOf w)) : encode i = w :=
  word_eq_iff.mpr ⟨(opOf_encode i).trans (BitVec.eq_of_toNat_eq h.opcode).symm, (argOf_encode i).trans h.argument⟩

section

variable {op arg reserved : Byte} {i j : Instr}

/-- An operation whose operands are rebuilt from the argument bits that are not reserved (R92). -/
theorem hasBytes_of_guardArg (h : guardArg arg reserved j = .ok i) (hwf : j.wf = true) (hop : op.toNat = j.opcode.toNat)
    (harg : arg &&& reserved = 0#8 → j.argument = arg) : i.HasBytes op arg := by
  obtain ⟨hz, rfl⟩ := guardArg_ok h
  exact ⟨hwf, hop, harg hz⟩

/-- An operation without operands, whose argument byte is reserved whole (R92). -/
theorem hasBytes_of_guardArg_all (h : guardArg arg 0xFF#8 j = .ok i) (hwf : j.wf = true) (hop : op.toNat = j.opcode.toNat)
    (hj : j.argument = 0#8) : i.HasBytes op arg :=
  hasBytes_of_guardArg h hwf hop fun hz => hj.trans ((BitVec.and_allOnes (x := arg)).symm.trans hz).symm

/-! The argument byte is rebuilt from the bits the decoder reads of it. -/

theorem argument_twRoute_sideAt : arg &&& 0xFE#8 = 0#8 → (Instr.twRoute (sideAt arg 0)).argument = arg := by
  revert arg; decide

theorem argument_muxSelect_sideAt :
    arg &&& 0xEC#8 = 0#8 → (Instr.muxSelect (sideAt arg 4) (arg.extractLsb' 0 2)).argument = arg := by
  revert arg; decide

theorem argument_decAddr_low : arg &&& 0xF8#8 = 0#8 → (Instr.decAddr (arg.extractLsb' 0 3)).argument = arg := by
  revert arg; decide

theorem instanceArg_sideAt : arg &&& 0xEF#8 = 0#8 → instanceArg (sideAt arg 4) = arg := by
  revert arg; decide

theorem setWidth_lowNibble : arg &&& 0xF0#8 = 0#8 → (arg.extractLsb' 0 4).setWidth 8 = arg := by
  revert arg; decide

/-- A code names only the value it is the code of (R83). -/
theorem activeCode_of_activeOfCode {c : BitVec 4} {v : Option Port} (h : activeOfCode c = some v) : activeCode v = c := by
  revert c v; decide

/-- SET_ACTIVE's code is the low half of its argument byte (R95). -/
theorem hasBytes_of_decodeActive (h : decodeActive arg = .ok i) (hop : op.toNat = 0x60) : i.HasBytes op arg := by
  obtain ⟨hz, v, hv, rfl⟩ := decodeActive_ok_iff.mp h
  refine ⟨rfl, hop, ?_⟩
  rw [Instr.argument, activeCode_of_activeOfCode hv]
  exact setWidth_lowNibble hz

/-- A signed byte is an index of SELECT, and its own low byte (R91). -/
theorem hasBytes_select (hop : op.toNat = 0x01) (arg : Byte) : (Instr.select arg.toInt).HasBytes op arg := by
  refine ⟨?_, hop, BitVec.ofInt_toInt⟩
  have hlow : -128 ≤ arg.toInt := BitVec.le_toInt arg
  have hhigh : arg.toInt < 128 := BitVec.toInt_lt
  simp only [Instr.wf, Bool.and_eq_true, decide_eq_true_eq]
  omega

/-- Each row's decoder rebuilds the argument byte it read (R92, R95). -/
theorem hasBytes_of_decodeFields (h : decodeFields op arg = .ok i) : i.HasBytes op arg := by
  unfold decodeFields at h
  split at h
  case h_23 => cases h
  all_goals rename_i hop
  case h_1 => cases h; exact hasBytes_select hop arg
  case h_9 => exact hasBytes_of_guardArg h rfl hop argument_twRoute_sideAt
  case h_10 | h_11 => exact hasBytes_of_guardArg h rfl hop instanceArg_sideAt
  case h_12 => exact hasBytes_of_guardArg h rfl hop argument_muxSelect_sideAt
  case h_15 => exact hasBytes_of_guardArg h rfl hop argument_decAddr_low
  case h_18 | h_22 => cases h; exact ⟨rfl, hop, rfl⟩
  case h_21 => exact hasBytes_of_decodeActive h hop
  all_goals exact hasBytes_of_guardArg_all h rfl hop rfl

end

/-- What decodes is well formed, and its word is the word that was decoded (R90 to R92). -/
theorem wf_and_encode_of_decode {w : Word16} {i : Instr} (h : decode w = .ok i) : i.wf = true ∧ encode i = w :=
  have hbytes := hasBytes_of_decodeFields h
  ⟨hbytes.wf, hbytes.encode_eq⟩

/-- Settles O2: the operation has the two bytes it was decoded from. -/
theorem encodeInvertsDecode : Obligations.EncodeInvertsDecode := by
  unfold Obligations.EncodeInvertsDecode
  exact fun w i h => wf_and_encode_of_decode h

/-! ### Words of the spec, and words as bytes -/

/-- Settles O4, by evaluation of the decoder. -/
theorem specWordsDecode : Obligations.SpecWordsDecode := by
  unfold Obligations.SpecWordsDecode
  decide

/-- The bytes of a word are decoded as the word is (R59). -/
theorem decodeBytes_wordBytes_append (w : Word16) (rest : List Byte) :
    decodeBytes (wordBytes w ++ rest) = (decode w).map (·, rest) := by
  unfold wordBytes decode
  rw [List.cons_append, List.cons_append, List.nil_append, decodeBytes]
  cases decodeFields (opOf w) (argOf w) <;> rfl

/-- Settles O5: decoding the bytes is decoding the word, whatever follows. -/
theorem bytesCarryOpcodeFirst : Obligations.BytesCarryOpcodeFirst := by
  unfold Obligations.BytesCarryOpcodeFirst
  intro w rest
  rw [decodeBytes_wordBytes_append]
  exact ⟨rfl, fun i h => by rw [h]; rfl, fun e h => by rw [h]; rfl⟩

end Sys2Proof
end

section
/-! PROOFS. The micro-operations that are no plain setters (R110 to R112, R131, R132, R135, R212, R214): SET_SAMPLE with the two ends it
brings about, the three bank transactions when they complete and when they fail, and the two waits. -/

namespace Sys2Proof.Machine

/-! ### The two waits -/

/-- Settles O10: both waits are setters that use no bus and have no field to write. -/
theorem waitsWriteNothing : Obligations.WaitsWriteNothing := by
  unfold Obligations.WaitsWriteNothing
  intro s
  exact ⟨⟨rfl, s.exec_completes rfl (Bool.or_false _)⟩, rfl, s.exec_completes rfl (Bool.or_false _)⟩

namespace State

variable {s : State} {b : Byte}

/-! ### The labels that name a micro-operation of this kind -/

theorem nextMicro_setSample_iff :
    s.nextMicro = some (.setSample b) ↔ (s.S.phase = .i3 ∨ s.S.phase = .z12) ∧ b = s.S.smp := by
  unfold nextMicro
  cases s.S.phase <;> simp [eq_comm]

theorem nextMicro_expRead_iff : s.nextMicro = some .expRead ↔ s.S.phase = .i2 ∨ s.S.phase = .z11 := by
  unfold nextMicro
  cases s.S.phase <;> simp

theorem nextMicro_expWrite_iff :
    s.nextMicro = some (.expWrite b) ↔ s.S.phase = .l1 ∧ b = ledByte s.par.table s.S.activePort := by
  unfold nextMicro
  cases s.S.phase <;> simp [eq_comm]

/-! ### SET_SAMPLE -/

theorem exec_setSample (s : State) (b : Byte) :
    exec (.setSample b) s = .next (s.afterMicro (.setSample b) (s.setSample b)) := rfl

/-- At I3 the stored sample ends the handler (R190). -/
theorem afterMicro_setSample_i3 (hp : s.S.phase = .i3) (hb : b = s.S.smp) :
    s.afterMicro (.setSample b) (s.setSample b) =
      ((s.setSample b).record (.done s.S.phase (encode (.setSample b)))).finish := by
  rw [afterMicro_own s _ (nextMicro_setSample_iff.mpr ⟨.inl hp, hb⟩), advance_i3 (by simpa using hp)]

/-- At Z12 the stored sample ends RESET (R203). -/
theorem afterMicro_setSample_z12 (hp : s.S.phase = .z12) (hb : b = s.S.smp) :
    s.afterMicro (.setSample b) (s.setSample b) =
      ((s.setSample b).record (.done s.S.phase (encode (.setSample b)))).endReset := by
  rw [afterMicro_own s _ (nextMicro_setSample_iff.mpr ⟨.inr hp, hb⟩), advance_z12 (by simpa using hp)]

/-- The end of an operation answers `OK` to whom the label and `ctx` say (R98). -/
theorem finish_responses (s : State) : s.finish.obs.responses = ⟨s.recipient, .ok, none⟩ :: s.obs.responses := rfl

theorem endReset_responses (s : State) :
    s.endReset.obs.responses = ⟨s.recipient, .ok, none⟩ :: s.obs.responses := rfl

theorem recipient_i3 (hp : s.S.phase = .i3) : s.recipient = .traceOnly := by
  unfold recipient; rw [hp]

theorem recipient_reset (hp : s.S.phase.isReset = true) : s.recipient = .caller := by
  unfold recipient
  cases h : s.S.phase <;> simp_all [Phase.isReset]

end State

theorem encode_setSample (b : Byte) : encode (.setSample b) = 0x6100#16 ||| b.setWidth 16 :=
  encode_of_argument (op := 0x61#8) (v := b) (by decide) rfl (BitVec.setWidth_eq b).symm

theorem encode_expWrite (b : Byte) : encode (.expWrite b) = 0x4200#16 ||| b.setWidth 16 :=
  encode_of_argument (op := 0x42#8) (v := b) (by decide) rfl (BitVec.setWidth_eq b).symm

/-- Settles O12: the frame is that of every micro-operation, and each of the three clauses about the record is one way SET_SAMPLE can be
issued. -/
theorem setSampleWritesLastSample : Obligations.SetSampleWritesLastSample := by
  unfold Obligations.SetSampleWritesLastSample
  intro s b
  refine ⟨encode_setSample b, _, s.exec_setSample b, ?_, by simp, by simp, by simp, ?_, fun ho => ?_, fun hp hb => ?_,
    fun hp hb => ?_⟩
  · rw [State.afterMicro_S]; rfl
  · rw [State.afterMicro_env]; rfl
  · rw [State.afterMicro_other s _ ho]; exact ⟨rfl, rfl, rfl⟩
  · rw [State.afterMicro_setSample_i3 hp hb, State.finish_responses, State.recipient_i3 (by simpa using hp)]
    exact ⟨rfl, rfl, rfl⟩
  · rw [State.afterMicro_setSample_z12 hp hb, State.endReset_responses, State.recipient_reset (by simp [hp, Phase.isReset])]
    exact ⟨rfl, rfl⟩

/-! ### The transactions that complete -/

namespace State

variable {s : State} {b : Byte}

/-- EXP_INIT that completes is traced, and moves the label on exactly when the sequencer issued it (R110, R129). -/
theorem expInit_ok (hb : s.busAnswer = .ok) :
    s.expInit = ((s.useBus.setLed 0xFF#8).losesLatch.record (.done s.S.phase (encode .expInit))).setPhase
      (if s.nextMicro = some .expInit then s.S.phase.succ else s.S.phase) := by
  unfold expInit
  rw [hb]
  exact afterMicro_setter s _ rfl (by simp)

/-- EXP_WRITE that completes away from L1 replaces the byte and is traced (R112). -/
theorem expWrite_ok_of_ne (hb : s.busAnswer = .ok) (hp : s.S.phase ≠ .l1) :
    s.expWrite b = (s.useBus.setLed b).record (.done s.S.phase (encode (.expWrite b))) := by
  unfold expWrite
  rw [hb]
  exact afterMicro_other s _ fun hn => hp (nextMicro_expWrite_iff.mp hn).1

/-- After the refresh only the label, and at the end of HALT `halted`, changes of the record (R173). -/
theorem afterRefresh_S (s : State) :
    s.afterRefresh.S = { s.S with phase := s.afterRefresh.S.phase, halted := s.S.halted || decide (s.S.ctx = .halt) } := by
  unfold afterRefresh
  split <;> rename_i hc <;> simp [hc, finish_S, setPhase_S, endHalt]

@[simp] theorem afterRefresh_env (s : State) : s.afterRefresh.env = s.env := by
  unfold afterRefresh; split <;> rfl

/-- What EXP_WRITE leaves of the record when it completes, whoever issues it (R112, R173). -/
theorem expWrite_ok_S (hb : s.busAnswer = .ok) :
    (s.expWrite b).S = { s.S with led := b, phase := (s.expWrite b).S.phase, halted := (s.expWrite b).S.halted } ∧
      ((s.expWrite b).S.halted ≠ s.S.halted → s.S.phase = .l1 ∧ s.S.ctx = .halt) ∧ (s.expWrite b).env = s.useBus.env := by
  unfold expWrite
  rw [hb]
  by_cases hn : s.nextMicro = some (.expWrite b)
  · have hp : s.S.phase = .l1 := (nextMicro_expWrite_iff.mp hn).1
    simp only [afterMicro_own s _ hn]
    rw [advance_l1 (by simpa using hp), afterRefresh_S, afterRefresh_env]
    refine ⟨by simp [setLed_S], fun hh => ⟨hp, ?_⟩, rfl⟩
    by_contra hc
    simp [hc] at hh
  · simp only [afterMicro_other s _ hn]
    exact ⟨by simp [setLed_S], fun hh => absurd (by simp) hh, rfl⟩

/-- The handler's decision writes the label and, for a connect, the target (R187, R189). -/
theorem dispatchEdge_S (s : State) :
    s.dispatchEdge.S = { s.S with tgt := s.dispatchEdge.S.tgt, phase := s.dispatchEdge.S.phase } := by
  unfold dispatchEdge
  split
  · rfl
  · split
    · rfl
    · rw [dispatchPort_S]; split <;> rfl

/-- What EXP_READ leaves when it completes, its decision at I2 aside (R111). -/
theorem expRead_some (hb : s.readByte = some b) :
    s.expRead = s.afterMicro .expRead ((s.useRead.setSmp b).clearLatch s.readNotice) := by
  unfold expRead
  rw [hb]

theorem read_S (s : State) (b : Byte) :
    ((s.useRead.setSmp b).clearLatch s.readNotice).S = { s.S with smp := b, intLatch := false } := by
  rw [clearLatch_S, setSmp_S, useRead_S]

/-- Away from I2 a completed read moves the sequencer at Z11 only. -/
theorem expRead_of_ne (hb : s.readByte = some b) (hp : s.S.phase ≠ .i2) :
    s.expRead = (((s.useRead.setSmp b).clearLatch s.readNotice).record (.done s.S.phase (encode .expRead))).setPhase
      (if s.S.phase = .z11 then .z12 else s.S.phase) := by
  have hS := s.read_S b
  rw [expRead_some hb]
  by_cases hz : s.S.phase = .z11
  · rw [afterMicro_own s _ (nextMicro_expRead_iff.mpr (.inr hz)), if_pos hz, advance_chain _ (by simp [hz, chainLabel])]
    simp [hz, Phase.succ]
  · rw [afterMicro_other s _ fun hn => (nextMicro_expRead_iff.mp hn).elim hp hz, if_neg hz]
    have hphase : s.S.phase = ((s.useRead.setSmp b).clearLatch s.readNotice).S.phase := by rw [hS]
    rw [hphase]
    rfl

/-- The record after a completed read (R111, R187). -/
theorem expRead_some_S (hb : s.readByte = some b) :
    s.expRead.S = { s.S with smp := b, intLatch := false, tgt := s.expRead.S.tgt, phase := s.expRead.S.phase } := by
  by_cases hp : s.S.phase = .i2
  · rw [expRead_some hb, afterMicro_own s _ (nextMicro_expRead_iff.mpr (.inl hp)), advance_i2 (by simpa using hp), dispatchEdge_S,
      record_S, read_S]
  · rw [expRead_of_ne hb hp, setPhase_S, record_S, read_S]

/-- A byte read from the panel's level is the content of the input bank (R56). -/
theorem readByte_level {n : Option Nat} (hb : s.readByte = some b) (hl : s.readAnswer = .level n) : b = s.env.panel := by
  unfold readByte at hb
  rw [hl] at hb
  exact (Option.some.inj hb).symm

/-- A well-formed table never refuses a read (R273, U12). -/
theorem exec_expRead (ht : s.S.phase = .i2 → s.par.table.wf) : exec .expRead s = .next s.expRead := by
  refine if_neg ?_
  by_cases hp : s.S.phase = .i2
  · simp [noPortForEdge_eq_false (ht hp)]
  · unfold noPortForEdge
    split
    · exact absurd ‹_› hp
    · simp

/-- The environment after a completed read: one answer used, and one notification if the latch was set (R56, R57). -/
theorem expRead_some_env (hb : s.readByte = some b) :
    s.expRead.env = { s.useRead.env with
      requests := if s.S.intLatch && !s.S.halted then addInterrupt s.readNotice s.env.requests else s.env.requests
      free := s.expRead.env.free } := by
  rw [expRead_some hb, afterMicro_env, clearLatch_env, clearLatch_requests]
  simp

end State

/-- Settles O13: EXP_INIT is a setter of the LED byte that leaves the latch open. -/
theorem expInitSetsIdleByte : Obligations.ExpInitSetsIdleByte := by
  unfold Obligations.ExpInitSetsIdleByte
  intro s hb
  refine ⟨rfl, s.expInit, rfl, ?_⟩
  rw [State.expInit_ok hb]
  refine ⟨?_, rfl, ?_, rfl, ?_, ?_, ?_⟩
  · simp [State.setPhase_S, State.setLed_S]
  · simp
  · simp
  · simp; rfl
  · simp

/-- Settles O14: the record is the read's, the environment the notification's, and away from I2 nothing is decided. -/
theorem expReadLatchesSample : Obligations.ExpReadLatchesSample := by
  unfold Obligations.ExpReadLatchesSample
  intro s b hb ht
  have hS := State.expRead_some_S hb
  have henv := State.expRead_some_env hb
  refine ⟨rfl, fun n hl => State.readByte_level hb hl, s.expRead, State.exec_expRead ht, by rw [hS], by rw [hS], hS,
    fun hp => ?_, ?_, ?_, ?_, ?_, ?_, ?_, ?_, ?_, ?_⟩
  · rw [State.expRead_of_ne hb hp]
    exact ⟨by simp, by simp, rfl⟩
  · rw [State.expRead_some hb]; simp
  · rw [State.expRead_some hb]; simp
  · rw [State.expRead_some hb]; simp; rfl
  · rw [henv]; simp
  · rw [henv]; simp
  · rw [henv]; simp
  · rw [henv]; simp
  · rw [henv]; simp
  · exact (congrArg Env.requests henv).trans (if_congr (by simp) (addInterrupt_eq _ _) rfl)

/-- Settles O15: the byte is replaced whoever writes it, and only at L1 does the sequencer move. -/
theorem expWriteReplacesByte : Obligations.ExpWriteReplacesByte := by
  unfold Obligations.ExpWriteReplacesByte
  intro s b hb
  obtain ⟨hS, hhalted, henv⟩ := State.expWrite_ok_S (b := b) hb
  refine ⟨encode_expWrite b, s.expWrite b, rfl, by rw [hS], hS, fun hp => ?_, hhalted, ?_, henv, ?_, ?_⟩
  · rw [State.expWrite_ok_of_ne hb hp]
    simp [State.setLed_S]
  all_goals simp [State.expWrite, hb]

/-! ### The transactions that fail -/

namespace State

variable {s : State}

/-- A failure the operation does not swallow sets `faultSeen`, ends at IDLE and gives the kind's code, and undoes nothing (R214). -/
theorem raiseBusFault_abandon_S {k : BusKind} (h : ¬ (s.S.phase = .l1 ∧ s.S.ctx = .halt ∧ k = .write)) :
    (s.raiseBusFault k).S = { s.S with faultSeen := true, phase := .idle } ∧
      (s.raiseBusFault k).obs.responses = ⟨s.recipient, k.code, none⟩ :: s.obs.responses := by
  rw [raiseBusFault_abandon s k h]
  exact ⟨rfl, rfl⟩

/-- What a failing bank transaction of kind `k` leaves, besides the fields it makes unspecified: it is traced and answered (R212, R214). -/
structure Abandons (s : State) (i : Instr) (k : BusKind) (t : State) : Prop where
  responses : ∃ r, t.obs.responses = ⟨r, k.code, none⟩ :: s.obs.responses
  trace : t.obs.trace = .failed s.S.phase (encode i) k :: s.obs.trace
  par : t.par = s.par

/-- The failure of EXP_INIT away from Z1 (R110, R214). -/
theorem expInit_busfail (hb : s.busAnswer = .busfail) (hp : s.S.phase ≠ .z1) :
    s.expInit.S = { s.S with
      led := s.expInit.S.led, intLatch := s.expInit.S.intLatch, faultSeen := true, phase := .idle } ∧
      s.Abandons .expInit .init s.expInit := by
  have he : s.expInit =
      ((s.useBus.record (.failed s.S.phase (encode .expInit) .init)).losesLed.losesLatch).raiseBusFault .init := by
    unfold expInit
    rw [hb]
    exact if_neg hp
  obtain ⟨hS, hresp⟩ := raiseBusFault_abandon_S (k := .init)
    (s := (s.useBus.record (.failed s.S.phase (encode .expInit) .init)).losesLed.losesLatch) nofun
  rw [he]
  exact ⟨by simp [hS], ⟨_, by simpa using hresp⟩, by simp, by simp⟩

/-- The failure of EXP_READ away from Z11 (R111, R214). -/
theorem expRead_none (hb : s.readByte = none) (hp : s.S.phase ≠ .z11) :
    s.expRead.S = { s.S with intLatch := s.expRead.S.intLatch, faultSeen := true, phase := .idle } ∧
      s.Abandons .expRead .read s.expRead := by
  have he : s.expRead =
      ((s.useRead.record (.failed s.S.phase (encode .expRead) .read)).losesLatch).raiseBusFault .read := by
    unfold expRead
    rw [hb]
    exact if_neg hp
  obtain ⟨hS, hresp⟩ := raiseBusFault_abandon_S (k := .read)
    (s := (s.useRead.record (.failed s.S.phase (encode .expRead) .read)).losesLatch) nofun
  rw [he]
  exact ⟨by simp [hS], ⟨_, by simpa using hresp⟩, by simp, by simp⟩

/-- The failure of EXP_WRITE, that of HALT's refresh aside (R112, R214). -/
theorem expWrite_busfail {b : Byte} (hb : s.busAnswer = .busfail) (hp : ¬ (s.S.phase = .l1 ∧ s.S.ctx = .halt)) :
    (s.expWrite b).S = { s.S with led := (s.expWrite b).S.led, faultSeen := true, phase := .idle } ∧
      s.Abandons (.expWrite b) .write (s.expWrite b) := by
  have he : s.expWrite b =
      ((s.useBus.record (.failed s.S.phase (encode (.expWrite b)) .write)).losesLed).raiseBusFault .write := by
    unfold expWrite
    rw [hb]
  obtain ⟨hS, hresp⟩ := raiseBusFault_abandon_S (k := .write)
    (s := (s.useBus.record (.failed s.S.phase (encode (.expWrite b)) .write)).losesLed) (by simpa using fun hl => not_and.mp hp hl)
  rw [he]
  exact ⟨by simp [hS], ⟨_, by simpa using hresp⟩, by simp, by simp⟩

/-- A read that fails is not refused. -/
theorem exec_expRead_none (hb : s.readByte = none) : exec .expRead s = .next s.expRead := by
  have hno : s.noPortForEdge = false := by
    unfold noPortForEdge
    rw [hb]
    split <;> rfl
  exact if_neg (by simp [hno])

end State

/-- Settles O16: each failing transaction, once it is traced and its unspecified fields are given up, raises the fault. -/
theorem busFailureAbandonsOperation : Obligations.BusFailureAbandonsOperation := by
  unfold Obligations.BusFailureAbandonsOperation
  intro s b
  refine ⟨fun hb hp => ?_, fun hb hp => ?_, fun hb hp => ?_⟩
  · obtain ⟨hS, ⟨r, hresp⟩, htrace, hpar⟩ := State.expInit_busfail hb hp
    exact ⟨s.expInit, r, rfl, hS, hresp, htrace, hpar⟩
  · obtain ⟨hS, ⟨r, hresp⟩, htrace, hpar⟩ := State.expRead_none hb hp
    exact ⟨s.expRead, r, State.exec_expRead_none hb, hS, hresp, htrace, hpar⟩
  · obtain ⟨hS, ⟨r, hresp⟩, htrace, hpar⟩ := State.expWrite_busfail (b := b) hb hp
    exact ⟨s.expWrite b, r, rfl, hS, hresp, htrace, hpar⟩

end Sys2Proof.Machine
end

section
/-! PROOFS. How an operation reaches the core (R57, R67, R69, R94, R96, R150, R203, R207): what a public operation does at IDLE and
while another one runs, what one step takes, and what the environment's moves do. -/

namespace Sys2Proof.Machine

/-! ### The public operations at IDLE -/

theorem portOfIndex_of_invalid {idx : Int} (h : idx < 0 ∨ 7 < idx) : portOfIndex idx = none :=
  dif_neg (by omega)

namespace State

variable {s : State} {i : Instr}

/-- SELECT of an invalid index is a DISCONNECT (R82, R150). -/
theorem exec_select_invalid {idx : Int} (h : idx < 0 ∨ 7 < idx) (hh : s.S.halted = false) (hp : s.S.phase = .idle) :
    exec (.select idx) s = .next ((s.setCtx .cmd).setPhase .d1) := by
  simp only [exec, execSelect, portOfIndex_of_invalid h, accept_taken s _ _ hh hp]

/-- SELECT of another port latches it and starts the connect (R150). -/
theorem exec_select_other {p : Port} (hh : s.S.halted = false) (hp : s.S.phase = .idle) (ha : s.S.activePort ≠ some p) :
    exec (.select p.val) s = .next (((s.setCtx .cmd).setTgt p).setPhase .c1) := by
  have hd : (s.setCtx .cmd).dispatchPort p = ((s.setCtx .cmd).setTgt p).setPhase .c1 := if_neg ha
  simp only [exec, execSelect, portOfIndex_port, accept_taken s _ _ hh hp, hd]

/-- RESET starts its own chain, and refuses what waits (R203, R207). -/
theorem exec_reset (hp : s.S.phase = .idle) : ∃ l n, answersRefusing s.env.requests l ∧
    exec .reset s = .next { s with
      S := { s.S with faultSeen := false, halted := true, phase := .z1 }
      env := { s.env with requests := s.env.requests.filter (· = 0x0500#16), free := n }
      obs := { s.obs with responses := l ++ s.obs.responses } } := by
  obtain ⟨l, n, hrefuse, ha⟩ := refuseWaiting_cases (((s.setFaultSeen false).setHalted true).setPhase .z1) rfl
  exact ⟨l, n, ha, (congrArg Host.Outcome.next (if_pos hp)).trans (congrArg Host.Outcome.next hrefuse)⟩

end State

/-- Settles O17: one lemma for each of the three branches. -/
theorem selectDispatch : Obligations.SelectDispatch := by
  unfold Obligations.SelectDispatch
  intro s idx hp hh
  refine ⟨fun h => State.exec_select_invalid h hh hp, ?_, ?_⟩
  · rintro p rfl ha
    exact State.exec_select_active hh hp ha
  · rintro p rfl ha
    exact State.exec_select_other hh hp ha

/-- Settles O18: one lemma for each of the four operations. -/
theorem operationsStart : Obligations.OperationsStart := by
  unfold Obligations.OperationsStart
  intro s hp
  exact ⟨fun hh => ⟨State.exec_disconnect hh hp, State.exec_halt hh hp, State.exec_irq hh hp⟩, State.exec_reset hp⟩

/-! ### The public operations while another one runs -/

namespace State

variable {s : State} {i : Instr}

/-- The word a well-formed request waits as is its own (R91). -/
theorem decode_requestWord (hi : i.wf = true) : decode (requestWord i) = .ok i := by
  rw [requestWord, if_pos hi]
  exact decode_encode hi

theorem wait_last (s : State) (w : Word16) :
    s.wait w s.env.requests.length = { s with env.requests := s.env.requests ++ [w] } := by
  rw [wait, insertAt_length]

/-- A public operation that finds the core busy waits behind the other requests (R67, R69). -/
theorem exec_busy (hp : s.S.phase ≠ .idle) (hi : i.isPublic = true) (hh : s.S.halted = false ∨ i = .reset) :
    exec i s = .next (s.wait (requestWord i) s.env.requests.length) := by
  cases i
  case reset => exact congrArg Host.Outcome.next (if_neg hp)
  case irq =>
    have hh : s.S.halted = false := hh.resolve_right nofun
    simp only [exec, execIrq, hh, Bool.false_eq_true, if_false, accept_waits s _ _ hh hp]
  case select | disconnect | status | halt =>
    exact congrArg Host.Outcome.next (accept_waits s _ _ (hh.resolve_right nofun) hp)
  all_goals cases hi

end State

/-- Settles O21: the word that waits is the operation's own. -/
theorem busyCoreLetsRequestsWait : Obligations.BusyCoreLetsRequestsWait := by
  unfold Obligations.BusyCoreLetsRequestsWait
  intro s i hp hi hh
  exact ⟨_, (State.exec_busy hp hi hh).trans (congrArg _ (s.wait_last _)), State.decode_requestWord⟩

/-! ### One step of the core -/

/-- Settles O22: the public operation at the head of the requests is taken. -/
theorem stepRunsWaitingRequest : Obligations.StepRunsWaitingRequest := by
  unfold Obligations.StepRunsWaitingRequest
  exact fun s w rest i hm hp hreq hdec hi => State.step_request ⟨hm, hp, w, hreq, hdec⟩ hi

/-- Settles O23: the label names the step. -/
theorem stepRunsPhaseMicroOperation : Obligations.StepRunsPhaseMicroOperation := by
  unfold Obligations.StepRunsPhaseMicroOperation
  exact fun s i hm hn => State.step_micro hm hn

namespace State

variable {s : State} {i : Instr} {w : Word16} {rest : List Word16}

/-- A micro-operation word from outside goes before everything else the core has to do (R269). -/
theorem step_outside (ht : s.env.turns = []) (hb : s.env.bare = w :: rest) (hdec : decode w = .ok i) (hi : i.isPublic = false) :
    step s = exec i { s with env.bare := rest } := by
  simp [step, ht, coreMove, hb, runBare, hdec, hi]

/-- A word the command port does not take is answered at IDLE as malformed (R94, R96). -/
theorem step_malformed (hm : s.coreMoves) (hp : s.S.phase = .idle) (hreq : s.env.requests = w :: rest)
    (hw : ∀ i, decode w = .ok i → i.isPublic = false) : step s = .next ({ s with env.requests := rest } : State).malformed := by
  obtain ⟨hturns, hbare⟩ := hm
  have hn : s.nextMicro = none := by unfold nextMicro; rw [hp]
  have hs : step s = runRequest w { s with env.requests := rest } := by
    simp [step, hturns, coreMove, hbare, hn, hreq]
  rw [hs, runRequest]
  cases hdec : decode w with
  | ok i => simp [hw i hdec]
  | error e => rfl

/-- A malformed word in a core that is not halted (R94, R96). -/
theorem malformed_running (hh : s.S.halted = false) : s.malformed = s.respond .caller .eMalformed none := by
  unfold malformed
  rw [if_neg (by simp [hh])]

/-- A malformed word in a halted core: R94 and R98 name two codes, and either may be given. -/
theorem malformed_halted (hh : s.S.halted = true) :
    ∃ c, (c = .eMalformed ∨ c = .eHalted) ∧ s.malformed = (s.respond .caller c none).useFree 1 := by
  unfold malformed
  rw [if_pos hh]
  refine ⟨_, ?_, rfl⟩
  split
  · exact .inl rfl
  · exact .inr rfl

end State

/-- Settles O24: the word from outside is run as it is. -/
theorem stepRunsOutsideMicroOperation : Obligations.StepRunsOutsideMicroOperation := by
  unfold Obligations.StepRunsOutsideMicroOperation
  exact fun s w rest i ht hb hdec hi => State.step_outside ht hb hdec hi

/-- A table word of sixteen bits is decoded as the word it is. -/
theorem decode_of_decodeTableWord {w : Nat} {i : Instr} (h : decodeTableWord 16 w = some i) :
    decode (BitVec.ofNat 16 (w % 2 ^ 16)) = .ok i := by
  have hbytes := decodeBytes_wordBytes_append (BitVec.ofNat 16 (w % 2 ^ 16)) []
  rw [List.append_nil] at hbytes
  unfold decodeTableWord at h
  rw [hbytes] at h
  cases hd : decode (BitVec.ofNat 16 (w % 2 ^ 16)) with
  | ok j => rw [hd] at h; cases h; rfl
  | error e => rw [hd] at h; cases h

/-- Settles O25: the placed word is the first waiting one, or the one issued from outside. -/
theorem stepRunsPlacedWord : Obligations.StepRunsPlacedWord := by
  unfold Obligations.StepRunsPlacedWord
  intro s w i h
  have hdec := decode_of_decodeTableWord h
  refine ⟨fun hi => ?_, fun hi => ?_⟩
  · simp only [State.withFetchWord, h, hi, if_true]
    exact State.step_request ⟨⟨rfl, rfl⟩, rfl, _, rfl, hdec⟩ hi
  · simp only [State.withFetchWord, h, hi, Bool.false_eq_true, if_false]
    exact State.step_outside rfl rfl hdec hi

/-- A word that is reserved or a micro-operation's names no public operation (R94, R96). -/
theorem isPublic_eq_false_of_malformed {w : Word16} (hw : reservedWord w = true ∨ ∃ i, decode w = .ok i ∧ i.isPublic = false)
    (i : Instr) (hdec : decode w = .ok i) : i.isPublic = false := by
  rcases hw with hw | ⟨j, hj, hpub⟩
  · have hfalse : reservedWord w = false := (opcodeMapIsDecoded w).1.mp ⟨i, hdec⟩
    rw [hw] at hfalse
    cases hfalse
  · rw [hdec] at hj
    cases hj
    exact hpub

/-- Settles O26: the step is the answer to a malformed word. -/
theorem malformedWordsChangeNothing : Obligations.MalformedWordsChangeNothing := by
  unfold Obligations.MalformedWordsChangeNothing
  intro s w rest hm hp hreq hw
  have hs := State.step_malformed hm hp hreq (isPublic_eq_false_of_malformed hw)
  refine ⟨fun hh => ?_, fun hh => ?_⟩
  · rw [hs, State.malformed_running (by exact hh)]
    rfl
  · obtain ⟨c, hc, hmal⟩ := State.malformed_halted (s := { s with env.requests := rest }) hh
    exact ⟨c, _, hc, hs.trans (congrArg _ hmal)⟩

/-! ### The environment's moves -/

namespace State

variable {s : State} {e : EnvEvent} {rest : List Turn} {w : Word16}

theorem step_env (h : s.env.turns = .env e :: rest) :
    step s = .next (({ s with env.turns := rest } : State).envMove e) := by
  unfold step
  rw [h]

/-- A panel move that raises no notification moves the panel alone (R56). -/
theorem panelMoves_quiet {b : Byte} {n : Option Nat} (h : ¬ (b ≠ s.env.panel ∧ s.S.intLatch = false)) :
    s.panelMoves b n = { s with env.panel := b } :=
  if_neg h

/-- A panel move that sets a clear latch notifies (R30, R57). -/
theorem panelMoves_notifies {b : Byte} {n : Option Nat} (h : b ≠ s.env.panel ∧ s.S.intLatch = false) :
    s.panelMoves b n = (({ s with env.panel := b } : State).setLatch true).notify n :=
  if_pos h

/-- IRQ is dropped by a halted core (R113, R207). -/
theorem refuse_irq (hdec : decode w = .ok .irq) : s.refuse w = s := by
  unfold refuse
  rw [hdec]

/-- Any other public word is answered `E_HALTED` (R207). -/
theorem refuse_public {i : Instr} (hdec : decode w = .ok i) (hi : i.isPublic = true) (hirq : i ≠ .irq) :
    s.refuse w = s.respond .caller .eHalted none := by
  unfold refuse
  rw [hdec]
  cases i
  case irq => exact absurd rfl hirq
  all_goals exact if_pos hi

/-- A word that names no public operation is malformed to a halted core too (R94). -/
theorem refuse_malformed (hw : ∀ i, decode w = .ok i → i.isPublic = false) : s.refuse w = s.malformed := by
  unfold refuse
  cases hdec : decode w with
  | error e => rfl
  | ok i =>
    have hi := hw i hdec
    cases i
    case irq => cases hi
    all_goals exact if_neg (by simp [hi])

end State

/-- Settles O27: the move either sets the latch and notifies, or moves the panel alone. -/
theorem panelChangeNotifies : Obligations.PanelChangeNotifies := by
  unfold Obligations.PanelChangeNotifies
  intro s b notice rest ht
  refine ⟨_, State.step_env ht, ?_⟩
  rw [State.envMove]
  by_cases h : b ≠ s.env.panel ∧ s.S.intLatch = false
  · rw [State.panelMoves_notifies (by exact h), State.notify_env, State.notify_requests]
    obtain ⟨hb, hl⟩ := h
    refine ⟨rfl, rfl, by simp, by simp, ?_, ?_⟩
    · simp [hb, State.setLatch]
    · cases hh : s.S.halted with
      | true => exact (if_pos hh).trans (if_neg (by simp)).symm
      | false =>
        exact (if_neg (by simpa using hh)).trans ((addInterrupt_eq _ _).trans (if_pos ⟨hb, hl, rfl⟩).symm)
  · rw [State.panelMoves_quiet (by exact h)]
    refine ⟨rfl, rfl, rfl, rfl, ?_, ?_⟩
    · have hl : (decide (b ≠ s.env.panel) || s.S.intLatch) = s.S.intLatch := by
        cases hl : s.S.intLatch <;> simp_all
      rw [hl]
    · rw [if_neg fun ⟨hb, hl, _⟩ => h ⟨hb, hl⟩]

/-- Settles O28: the word waits, or it is refused as one of three kinds. -/
theorem requestsReachTheCore : Obligations.RequestsReachTheCore := by
  unfold Obligations.RequestsReachTheCore
  intro s w n rest ht
  have hs := State.step_env ht
  have hreset : w = 0x0500#16 → decode w = .ok .reset := by rintro rfl; rfl
  have hrefused : s.S.halted = true → decode w ≠ .ok .reset →
      step s = .next (({ s with env.turns := rest } : State).refuse w) := fun hh hdec =>
    hs.trans (congrArg _ (State.present_refused _ w n hh (mt hreset hdec)))
  refine ⟨fun hw => ?_, fun hh hdec => ?_, fun hh ⟨i, hdec, hi, hr, hirq⟩ => ?_, fun hh hw => ?_⟩
  · have hword : decode w = .ok .reset → w = 0x0500#16 := fun hdec => (wf_and_encode_of_decode hdec).2.symm
    exact hs.trans (congrArg _ (State.present_waits _ w n (hw.imp_right hword)))
  · rw [hrefused hh (by rw [hdec]; nofun), State.refuse_irq hdec]
  · rw [hrefused hh (by rw [hdec]; simpa using hr), State.refuse_public hdec hi hirq]
    rfl
  · have hpub := isPublic_eq_false_of_malformed hw
    obtain ⟨c, hc, hmal⟩ := State.malformed_halted (s := { s with env.turns := rest }) hh
    exact ⟨c, _, hc, (hrefused hh fun hdec => nomatch hpub _ hdec).trans
      (congrArg _ ((State.refuse_malformed hpub).trans hmal))⟩

/-- Settles O29: the power-on state is halted at IDLE, and nothing outside the record is lost but free values. -/
theorem powerFailureHaltsTheCore : Obligations.PowerFailureHaltsTheCore := by
  unfold Obligations.PowerFailureHaltsTheCore
  exact fun s rest ht => ⟨_, State.step_env ht, rfl, rfl, rfl, rfl, rfl⟩

end Sys2Proof.Machine
end

section
/-! PROOFS. What every operation leaves alone and what it writes (R33, R40, R62, R129, R269): first outside the record, then field by field
of the record, each kind of operation said once. -/

namespace Sys2Proof.Machine

/-! ### Outside the record -/

/-- What every operation keeps outside the record: the parameters, whose turn it is and the outside issuer's words; and the mark, which
is set only by a setter that breaks its precondition (R33, R269). -/
structure State.Keeps (s : State) (i : Instr) (t : State) : Prop where
  par : t.par = s.par
  hazard : t.obs.hazard = (s.obs.hazard || s.S.breaks i)
  turns : t.env.turns = s.env.turns
  bare : t.env.bare = s.env.bare

namespace State

variable {s t : State} {i : Instr}

theorem keeps_afterMicro {u : State} (h : s.Keeps i u) : s.Keeps i (s.afterMicro i u) where
  par := by simpa using h.par
  hazard := by simpa using h.hazard
  turns := by rw [afterMicro_env]; exact h.turns
  bare := by rw [afterMicro_env]; exact h.bare

theorem keeps_expInit (s : State) : s.Keeps .expInit s.expInit := by
  unfold expInit
  split
  · exact keeps_afterMicro ⟨by simp, by simp [Selector.breaks], by simp, by simp⟩
  · dsimp only
    split <;> exact ⟨by simp, by simp [Selector.breaks], by simp, by simp⟩

theorem keeps_expRead (s : State) : s.Keeps .expRead s.expRead := by
  unfold expRead
  split
  · refine keeps_afterMicro ⟨by simp, by simp [Selector.breaks], ?_, ?_⟩ <;> rw [clearLatch_env] <;> simp
  · dsimp only
    split <;> exact ⟨by simp, by simp [Selector.breaks], by simp, by simp⟩

theorem keeps_expWrite (s : State) (b : Byte) : s.Keeps (.expWrite b) (s.expWrite b) := by
  unfold expWrite
  split
  · exact keeps_afterMicro ⟨by simp, by simp [Selector.breaks], by simp, by simp⟩
  · exact ⟨by simp, by simp [Selector.breaks], by simp, by simp⟩

/-- Every acceptance keeps what the accepted operation keeps. -/
theorem keeps_accept {j : Instr} (hi : s.S.breaks i = false) (h : s.Keeps i t) : s.Keeps i (s.accept j t) := by
  unfold accept
  split
  · exact ⟨rfl, by simp [hi], rfl, rfl⟩
  · split
    · exact h
    · exact ⟨rfl, by simp [hi], rfl, rfl⟩

/-- Every operation keeps what lies outside its own effect, whatever it does to the record. -/
theorem keeps_of_exec (hs : exec i s = .next t) : s.Keeps i t := by
  by_cases hi : busFree i = true
  · rw [exec_busFree s hi] at hs
    cases hs
    exact keeps_afterMicro ⟨rfl, rfl, rfl, rfl⟩
  cases i
  case expInit => cases hs; exact keeps_expInit s
  case expRead => rw [expRead_of_next hs]; exact keeps_expRead s
  case expWrite b => cases hs; exact keeps_expWrite s b
  case setSample b => cases hs; exact keeps_afterMicro ⟨rfl, by simp [Selector.breaks], rfl, rfl⟩
  case select idx =>
    cases hs
    refine keeps_accept rfl ?_
    split
    · exact ⟨rfl, by simp [Selector.breaks], rfl, rfl⟩
    · exact ⟨by simp, by simp [Selector.breaks], by simp, by simp⟩
  case disconnect | status | halt => cases hs; exact keeps_accept rfl ⟨rfl, by simp [Selector.breaks], rfl, rfl⟩
  case irq =>
    cases hs
    split
    · exact ⟨rfl, by simp [Selector.breaks], rfl, rfl⟩
    · exact keeps_accept rfl ⟨rfl, by simp [Selector.breaks], rfl, rfl⟩
  case reset =>
    by_cases hp : s.S.phase = .idle
    · obtain ⟨l, n, -, he⟩ := exec_reset hp
      cases he.symm.trans hs
      exact ⟨rfl, by simp [Selector.breaks], rfl, rfl⟩
    · cases (exec_busy hp rfl (.inr rfl)).symm.trans hs
      exact ⟨rfl, by simp [Selector.breaks], rfl, rfl⟩
  all_goals exact absurd rfl hi

end State

/-- Settles O55: the mark is set only where the operation breaks its precondition, which three setters can. -/
theorem onlyBrokenPreconditionsAreMarked : Obligations.OnlyBrokenPreconditionsAreMarked := by
  unfold Obligations.OnlyBrokenPreconditionsAreMarked
  intro i s t hs ht hz
  have hbreaks : s.S.breaks i = true := by simpa [ht, hz] using (State.keeps_of_exec hs).hazard
  cases i
  case twRoute d => exact .inl ⟨d, rfl, hbreaks⟩
  case muxSelect m n => exact .inr (.inl ⟨m, n, rfl, hbreaks⟩)
  case decAddr a => exact .inr (.inr ⟨a, rfl, hbreaks⟩)
  all_goals cases hbreaks

/-! ### One step, taken apart -/

/-- `u` is `s` but for whose turn it is and which words wait, inside or outside. -/
structure State.SameCore (s u : State) : Prop where
  S : u.S = s.S
  par : u.par = s.par
  obs : u.obs = s.obs

/-- What a step from `s` to `t` can be; `u` is the state the step finds once the turn and the word it takes are gone. -/
inductive State.Move (s t : State) : Prop
  /-- The environment moves (R56, R69, R251). -/
  | env {u : State} (hu : s.SameCore u) (ht : s.env.turns ≠ []) (e : EnvEvent) (h : t = u.envMove e)
  /-- A micro-operation issued from outside (R269). -/
  | outside {u : State} (hu : s.SameCore u) (hb : s.env.bare ≠ []) (i : Instr) (h : exec i u = .next t)
  /-- The micro-operation the label names (R28). -/
  | micro {u : State} (hu : s.SameCore u) (i : Instr) (hn : s.nextMicro = some i) (h : exec i u = .next t)
  /-- A waiting public operation (R67). -/
  | request {u : State} (hu : s.SameCore u) (hp : s.S.phase = .idle) (i : Instr) (hi : i.isPublic = true)
      (hw : ∃ w rest, s.env.requests = w :: rest ∧ decode w = .ok i) (h : exec i u = .next t)
  /-- A word that is not taken (R94, R96). -/
  | malformed {u : State} (hu : s.SameCore u) (h : t = u.malformed)
  /-- Nothing to do (R250). -/
  | nothing {u : State} (hu : s.SameCore u) (h : t = u)

namespace State

variable {s t u : State} {i : Instr}

theorem SameCore.nextMicro (hu : s.SameCore u) : u.nextMicro = s.nextMicro := by
  unfold State.nextMicro
  rw [hu.S, hu.par]

theorem SameCore.trans {v : State} (hu : s.SameCore u) (hv : u.SameCore v) : s.SameCore v :=
  ⟨hv.S.trans hu.S, hv.par.trans hu.par, hv.obs.trans hu.obs⟩

theorem move_of_coreMove (hs : coreMove s = .next t) : s.Move t := by
  unfold coreMove at hs
  split at hs
  case h_1 w rest hb =>
    have hu : s.SameCore { s with env.bare := rest } := ⟨rfl, rfl, rfl⟩
    unfold runBare at hs
    split at hs
    · split at hs
      · cases hs; exact .malformed hu rfl
      · exact .outside hu (by simp [hb]) _ hs
    · cases hs; exact .malformed hu rfl
  case h_2 =>
    split at hs
    case h_1 i hn => exact .micro ⟨rfl, rfl, rfl⟩ i hn hs
    case h_2 hn =>
      split at hs
      case h_2 => cases hs; exact .nothing ⟨rfl, rfl, rfl⟩ rfl
      case h_1 w rest hreq =>
        have hu : s.SameCore { s with env.requests := rest } := ⟨rfl, rfl, rfl⟩
        unfold runRequest at hs
        split at hs
        case h_2 => cases hs; exact .malformed hu rfl
        case h_1 i hdec =>
          split at hs
          case isTrue hi => exact .request hu (idle_of_nextMicro hn) i hi ⟨w, rest, hreq, hdec⟩ hs
          case isFalse => cases hs; exact .malformed hu rfl

/-- A move is one from the list of turns it was taken off, too. -/
theorem Move.of_turns {l : List Turn} (ht : s.env.turns ≠ []) (h : ({ s with env.turns := l } : State).Move t) :
    s.Move t := by
  have h0 : s.SameCore { s with env.turns := l } := ⟨rfl, rfl, rfl⟩
  cases h with
  | env hu _ e h => exact .env (h0.trans hu) ht e h
  | outside hu hb i h => exact .outside (h0.trans hu) hb i h
  | micro hu i hn h => exact .micro (h0.trans hu) i hn h
  | request hu hp i hi hw h => exact .request (h0.trans hu) hp i hi hw h
  | malformed hu h => exact .malformed (h0.trans hu) h
  | nothing hu h => exact .nothing (h0.trans hu) h

/-- Every step is one of these moves. -/
theorem move_of_step (hs : step s = .next t) : s.Move t := by
  unfold step at hs
  split at hs
  case h_1 e rest ht =>
    cases hs
    exact .env (u := { s with env.turns := rest }) ⟨rfl, rfl, rfl⟩ (by simp [ht]) e rfl
  case h_2 ht => exact .of_turns (by simp [ht]) (move_of_coreMove hs)
  · exact move_of_coreMove hs

@[simp] theorem panelMoves_par (s : State) (b : Byte) (n : Option Nat) : (s.panelMoves b n).par = s.par := by
  unfold panelMoves; split <;> simp

@[simp] theorem present_par (s : State) (w : Word16) (n : Nat) : (s.present w n).par = s.par := by
  unfold present; split <;> simp

/-- The environment's moves keep the parameters. -/
theorem envMove_par (s : State) (e : EnvEvent) : (s.envMove e).par = s.par := by
  cases e <;> simp [envMove]

end State

/-- Settles O57: no operation and no move of the environment writes them. -/
theorem parametersAreReadOnly : Obligations.ParametersAreReadOnly := by
  unfold Obligations.ParametersAreReadOnly
  intro s t hs
  cases State.move_of_step hs with
  | env hu _ e h => rw [h, State.envMove_par, hu.par]
  | outside hu _ _ h | micro hu _ _ h | request hu _ _ _ _ h => exact (State.keeps_of_exec h).par.trans hu.par
  | malformed hu h => rw [h, State.malformed_par, hu.par]
  | nothing hu h => rw [h, hu.par]

/-! ### The fields that a setter that uses no bus writes -/

namespace Selector

variable {S : Selector} {i : Instr}

theorem apply_activePort (h : ∀ v, i ≠ .setActive v) : (S.apply i).activePort = S.activePort := by
  cases i
  case setActive v => exact absurd rfl (h v)
  case muxDisable m | muxEnable m | muxSelect m _ => cases m <;> rfl
  all_goals rfl

theorem apply_tw_en (hd : i ≠ .twDisable) (he : i ≠ .twEnable) : (S.apply i).tw.en = S.tw.en := by
  cases i
  case twDisable => exact absurd rfl hd
  case twEnable => exact absurd rfl he
  case muxDisable m | muxEnable m | muxSelect m _ => cases m <;> rfl
  all_goals rfl

theorem apply_tw_side (h : ∀ d, i ≠ .twRoute d) : (S.apply i).tw.side = S.tw.side := by
  cases i
  case twRoute d => exact absurd rfl (h d)
  case muxDisable m | muxEnable m | muxSelect m _ => cases m <;> rfl
  all_goals rfl

theorem apply_mux_en {m : Side} (hd : i ≠ .muxDisable m) (he : i ≠ .muxEnable m) :
    ((S.apply i).mux m).en = (S.mux m).en := by
  cases i
  case muxDisable n => cases m <;> cases n; exacts [absurd rfl hd, rfl, rfl, absurd rfl hd]
  case muxEnable n => cases m <;> cases n; exacts [absurd rfl he, rfl, rfl, absurd rfl he]
  case muxSelect n _ => cases m <;> cases n <;> rfl
  all_goals rfl

theorem apply_mux_sel {m : Side} (h : ∀ n, i ≠ .muxSelect m n) : ((S.apply i).mux m).sel = (S.mux m).sel := by
  cases i
  case muxDisable n | muxEnable n => cases m <;> cases n <;> rfl
  case muxSelect n k => cases m <;> cases n; exacts [absurd rfl (h k), rfl, rfl, absurd rfl (h k)]
  all_goals rfl

theorem apply_dec_en (hd : i ≠ .decDisable) (he : i ≠ .decEnable) : (S.apply i).dec.en = S.dec.en := by
  cases i
  case decDisable => exact absurd rfl hd
  case decEnable => exact absurd rfl he
  case muxDisable m | muxEnable m | muxSelect m _ => cases m <;> rfl
  all_goals rfl

theorem apply_dec_addr (h : ∀ a, i ≠ .decAddr a) : (S.apply i).dec.addr = S.dec.addr := by
  cases i
  case decAddr a => exact absurd rfl (h a)
  case muxDisable m | muxEnable m | muxSelect m _ => cases m <;> rfl
  all_goals rfl

/-- An operation that is no setter of this kind writes none of these fields. -/
theorem apply_of_not_busFree (hi : busFree i = false) : S.apply i = S := by
  cases i
  case expInit | expRead | expWrite | setSample | select | disconnect | status | irq | reset | halt => rfl
  all_goals cases hi

@[simp] theorem apply_lastSample (S : Selector) (i : Instr) : (S.apply i).lastSample = S.lastSample := by rw [apply_frame]
@[simp] theorem apply_intLatch (S : Selector) (i : Instr) : (S.apply i).intLatch = S.intLatch := by rw [apply_frame]
@[simp] theorem apply_smp (S : Selector) (i : Instr) : (S.apply i).smp = S.smp := by rw [apply_frame]

end Selector

/-! ### The whole record, by kind of operation -/

/-- The two failures of RESET that leave fields unspecified (R204). -/
def State.losesFields (s : State) (i : Instr) : Prop :=
  (s.S.phase = .z1 ∧ i = .expInit ∧ s.busAnswer = .busfail) ∨ (s.S.phase = .z11 ∧ i = .expRead ∧ s.readByte = none)

/-- What the operation `i` from `s` to `t` may have written, with the condition under which it writes each field that it does not write
at every label (R40). -/
structure State.Writes (s : State) (i : Instr) (t : State) : Prop where
  /-- `activePort` and the route devices are written by their setters alone. -/
  route : t.S = { s.S.apply i with
    lastSample := t.S.lastSample, led := t.S.led, intLatch := t.S.intLatch, phase := t.S.phase, tgt := t.S.tgt
    smp := t.S.smp, ctx := t.S.ctx, faultSeen := t.S.faultSeen, halted := t.S.halted }
  lastSample : (∀ b, i ≠ .setSample b) → t.S.lastSample = s.S.lastSample
  led : i ≠ .expInit → (∀ b, i ≠ .expWrite b) → t.S.led = s.S.led
  intLatch : i ≠ .expInit → i ≠ .expRead → t.S.intLatch = s.S.intLatch
  phase : t.S.phase ≠ s.S.phase → i.isPublic = true ∨ s.nextMicro = some i ∨ s.busFailsFor i
  tgt : t.S.tgt ≠ s.S.tgt → (∃ idx, i = .select idx) ∨ (s.S.phase = .i2 ∧ i = .expRead) ∨ s.endsReset i
  smp : t.S.smp ≠ s.S.smp → i = .expRead ∨ s.endsReset i
  ctx : t.S.ctx ≠ s.S.ctx → i = .irq ∨ i = .halt ∨ i = .disconnect ∨ (∃ idx, i = .select idx) ∨ s.endsReset i
  fault : s.S.faultSeen = false → t.S.faultSeen = true → s.busFailsFor i
  cleared : s.S.faultSeen = true → t.S.faultSeen = false → i = .reset
  halted : t.S.halted ≠ s.S.halted →
    i = .reset ∨ s.endsReset i ∨ (s.S.phase = .l1 ∧ s.S.ctx = .halt ∧ ∃ b, i = .expWrite b)

namespace State

variable {s t : State} {i : Instr} {b : Byte}

/-- An operation that writes nothing at all of the record. -/
theorem writes_of_same (hi : busFree i = false) (h : t.S = s.S) : s.Writes i t := by
  constructor
  case route => rw [Selector.apply_of_not_busFree hi, h]
  all_goals rw [h]; simp +contextual

theorem writes_busFree (hi : busFree i = true) (hs : exec i s = .next t) : s.Writes i t := by
  obtain ⟨u, hu, hS, ⟨-, -, -, -, hphase⟩, -⟩ := s.exec_completes hi rfl
  cases hu.symm.trans hs
  constructor
  case route => rw [hS]
  case phase =>
    intro hne
    by_contra h
    exact hne (hphase.trans (if_neg fun hn => h (.inr (.inl hn))))
  all_goals rw [hS]; simp +contextual

/-- SET_SAMPLE that does not end RESET writes nothing but `lastSample` and, where the handler issues it, the label (R135, R190). -/
theorem afterMicro_setSample_S (hz : ¬ s.endsReset (.setSample b)) :
    (s.afterMicro (.setSample b) (s.setSample b)).S =
      { s.S with lastSample := b, phase := (s.afterMicro (.setSample b) (s.setSample b)).S.phase } := by
  by_cases hn : s.nextMicro = some (.setSample b)
  · obtain ⟨hp | hp, hb⟩ := nextMicro_setSample_iff.mp hn
    · rw [afterMicro_setSample_i3 hp hb]; rfl
    · exact absurd ⟨hp, congrArg _ hb⟩ hz
  · rw [afterMicro_other s _ hn]
    rfl

/-- A micro-operation that somebody else issues leaves the label alone. -/
theorem nextMicro_of_phase_ne {u : State} (hu : u.S.phase = s.S.phase) (hne : (s.afterMicro i u).S.phase ≠ s.S.phase) :
    s.nextMicro = some i := by
  by_contra hn
  rw [afterMicro_other s u hn] at hne
  exact hne hu

theorem writes_setSample (s : State) (b : Byte) :
    s.Writes (.setSample b) (s.afterMicro (.setSample b) (s.setSample b)) := by
  have hphase := nextMicro_of_phase_ne (s := s) (i := .setSample b) (u := s.setSample b) rfl
  by_cases hz : s.endsReset (.setSample b)
  · constructor
    case phase => exact fun hne => .inr (.inl (hphase hne))
    case tgt => exact fun _ => .inr (.inr hz)
    case smp => exact fun _ => .inr hz
    case ctx => exact fun _ => .inr (.inr (.inr (.inr hz)))
    case halted => exact fun _ => .inr (.inl hz)
    all_goals rw [afterMicro_S]; simp +contextual [setSample_S, Selector.apply]
  · constructor
    case phase => exact fun hne => .inr (.inl (hphase hne))
    all_goals rw [afterMicro_setSample_S hz]; simp +contextual [Selector.apply]

theorem writes_expInit (hl : ¬ s.losesFields .expInit) : s.Writes .expInit s.expInit := by
  cases hb : s.busAnswer with
  | ok =>
    have hS : s.expInit.S = { s.S with led := 0xFF#8, intLatch := s.expInit.S.intLatch, phase := s.expInit.S.phase } := by
      rw [expInit_ok hb]; simp [setPhase_S, setLed_S]
    constructor
    case phase =>
      intro hne
      by_contra h
      rw [expInit_ok hb] at hne
      exact hne (if_neg fun hn => h (.inr (.inl hn)))
    all_goals rw [hS]; simp +contextual [Selector.apply]
  | busfail =>
    obtain ⟨hS, -⟩ := expInit_busfail hb fun hp => hl (.inl ⟨hp, rfl, hb⟩)
    have hfails : s.busFailsFor .expInit := .inl ⟨.inl rfl, hb⟩
    constructor
    case phase => exact fun _ => .inr (.inr hfails)
    case fault => exact fun _ _ => hfails
    all_goals rw [hS]; simp +contextual [Selector.apply]

theorem writes_expRead (hl : ¬ s.losesFields .expRead) : s.Writes .expRead s.expRead := by
  cases hb : s.readByte with
  | some b =>
    have hS := expRead_some_S hb
    constructor
    case phase =>
      rw [expRead_some hb]
      exact fun hne => .inr (.inl (nextMicro_of_phase_ne (by simp) hne))
    case tgt =>
      intro hne
      by_contra h
      refine hne ?_
      rw [expRead_of_ne hb fun hp => h (.inr (.inl ⟨hp, rfl⟩))]
      simp
    all_goals rw [hS]; simp +contextual [Selector.apply]
  | none =>
    obtain ⟨hS, -⟩ := expRead_none hb fun hp => hl (.inr ⟨hp, rfl, hb⟩)
    have hfails : s.busFailsFor .expRead := .inr ⟨rfl, hb⟩
    constructor
    case phase => exact fun _ => .inr (.inr hfails)
    case fault => exact fun _ _ => hfails
    all_goals rw [hS]; simp +contextual [Selector.apply]

/-- The failing refresh of HALT ends it all the same (R173, R206). -/
theorem expWrite_busfail_halt (hb : s.busAnswer = .busfail) (hp : s.S.phase = .l1) (hc : s.S.ctx = .halt) :
    (s.expWrite b).S =
      { s.S with led := (s.expWrite b).S.led, faultSeen := true, halted := true, phase := .idle } := by
  unfold expWrite
  rw [hb]
  dsimp only
  rw [raiseBusFault_halt _ (by simpa using hp) (by simpa using hc)]
  simp [endHalt_S, setFaultSeen]

theorem writes_expWrite (s : State) (b : Byte) : s.Writes (.expWrite b) (s.expWrite b) := by
  cases hb : s.busAnswer with
  | ok =>
    obtain ⟨hS, hhalted, -⟩ := expWrite_ok_S (b := b) hb
    constructor
    case phase =>
      unfold expWrite
      rw [hb]
      exact fun hne => .inr (.inl (nextMicro_of_phase_ne (by simp) hne))
    case halted =>
      intro hne
      obtain ⟨hp, hc⟩ := hhalted hne
      exact .inr (.inr ⟨hp, hc, b, rfl⟩)
    all_goals rw [hS]; simp +contextual [Selector.apply]
  | busfail =>
    have hfails : s.busFailsFor (.expWrite b) := .inl ⟨.inr ⟨b, rfl⟩, hb⟩
    by_cases hh : s.S.phase = .l1 ∧ s.S.ctx = .halt
    · obtain ⟨hp, hc⟩ := hh
      have hS := expWrite_busfail_halt (b := b) hb hp hc
      constructor
      case phase => exact fun _ => .inr (.inr hfails)
      case fault => exact fun _ _ => hfails
      case halted => exact fun _ => .inr (.inr ⟨hp, hc, b, rfl⟩)
      all_goals rw [hS]; simp +contextual [Selector.apply]
    · obtain ⟨hS, -⟩ := expWrite_busfail (b := b) hb hh
      constructor
      case phase => exact fun _ => .inr (.inr hfails)
      case fault => exact fun _ _ => hfails
      all_goals rw [hS]; simp +contextual [Selector.apply]

/-- What a public operation at IDLE writes of the record when the core takes it. -/
theorem exec_public_taken (hp : s.S.phase = .idle) (hh : s.S.halted = false) (hi : i.isPublic = true) (hr : i ≠ .reset)
    (hs : exec i s = .next t) :
    t.S = { s.S with tgt := t.S.tgt, ctx := t.S.ctx, phase := t.S.phase } ∧
      (t.S.tgt ≠ s.S.tgt → ∃ idx, i = .select idx) ∧ (t.S.ctx ≠ s.S.ctx → i ≠ .status) := by
  cases i
  case select idx =>
    refine ⟨?_, fun _ => ⟨idx, rfl⟩, fun _ => nofun⟩
    simp only [exec, execSelect, accept_taken s _ _ hh hp] at hs
    cases hs
    split
    · rfl
    · rw [dispatchPort_S]; split <;> rfl
  case disconnect =>
    cases (exec_disconnect hh hp).symm.trans hs
    exact ⟨rfl, fun hne => absurd rfl hne, fun _ => nofun⟩
  case halt =>
    cases (exec_halt hh hp).symm.trans hs
    exact ⟨rfl, fun hne => absurd rfl hne, fun _ => nofun⟩
  case irq =>
    cases (exec_irq hh hp).symm.trans hs
    exact ⟨rfl, fun hne => absurd rfl hne, fun _ => nofun⟩
  case status =>
    cases (exec_status hh hp).symm.trans hs
    exact ⟨rfl, fun hne => absurd rfl hne, fun hne => absurd rfl hne⟩
  case reset => exact absurd rfl hr
  all_goals cases hi

/-- A public operation other than RESET is taken at IDLE by a core that is not halted; otherwise it writes nothing of the record
(R67, R207). -/
theorem exec_public_not_taken (hi : i.isPublic = true) (hr : i ≠ .reset) (hs : exec i s = .next t)
    (h : ¬ (s.S.phase = .idle ∧ s.S.halted = false)) : t.S = s.S := by
  cases hh : s.S.halted
  · cases (exec_busy (fun hp => h ⟨hp, hh⟩) hi (.inl hh)).symm.trans hs
    rfl
  · by_cases hirq : i = .irq
    · subst hirq
      cases (exec_irq_halted hh).symm.trans hs
      rfl
    · cases (exec_halted hi hirq hr hh).symm.trans hs
      rfl

theorem writes_reset (hs : exec .reset s = .next t) : s.Writes .reset t := by
  by_cases hp : s.S.phase = .idle
  · obtain ⟨l, n, -, he⟩ := exec_reset hp
    cases he.symm.trans hs
    constructor
    case phase => exact fun _ => .inl rfl
    all_goals simp +contextual [Selector.apply]
  · cases (exec_busy hp rfl (.inr rfl)).symm.trans hs
    exact writes_of_same rfl rfl

theorem busFree_of_isPublic (hi : i.isPublic = true) : busFree i = false := by
  cases i
  case select | disconnect | status | irq | reset | halt => rfl
  all_goals cases hi

theorem writes_public (hi : i.isPublic = true) (hs : exec i s = .next t) : s.Writes i t := by
  have hb := busFree_of_isPublic hi
  by_cases hr : i = .reset
  · subst hr
    exact writes_reset hs
  by_cases h : s.S.phase = .idle ∧ s.S.halted = false
  · obtain ⟨hp, hh⟩ := h
    obtain ⟨hS, htgt, hctx⟩ := exec_public_taken hp hh hi hr hs
    constructor
    case route => rw [Selector.apply_of_not_busFree hb, hS]
    case phase => exact fun _ => .inl hi
    case tgt => exact fun hne => .inl (htgt hne)
    case ctx =>
      intro hne
      cases i
      case irq => exact .inl rfl
      case halt => exact .inr (.inl rfl)
      case disconnect => exact .inr (.inr (.inl rfl))
      case select idx => exact .inr (.inr (.inr (.inl ⟨idx, rfl⟩)))
      case status => exact absurd rfl (hctx hne)
      case reset => exact absurd rfl hr
      all_goals cases hi
    all_goals rw [hS]; simp +contextual
  · exact writes_of_same hb (exec_public_not_taken hi hr hs h)

/-- Every operation that completes writes only what its kind writes (R40). -/
theorem writes_of_exec (hl : ¬ s.losesFields i) (hs : exec i s = .next t) : s.Writes i t := by
  by_cases hi : busFree i = true
  · exact writes_busFree hi hs
  by_cases hpub : i.isPublic = true
  · exact writes_public hpub hs
  cases i
  case expInit => cases hs; exact writes_expInit hl
  case expRead => rw [expRead_of_next hs]; exact writes_expRead hl
  case expWrite b => cases hs; exact writes_expWrite s b
  case setSample b => cases hs; exact writes_setSample s b
  case select | disconnect | status | irq | reset | halt => exact absurd rfl hpub
  all_goals exact absurd rfl hi

end State

/-- Settles O56: the route devices and `activePort` by their setters, every other field by the kind of operation. -/
theorem fieldsHaveOneWriter : Obligations.FieldsHaveOneWriter := by
  unfold Obligations.FieldsHaveOneWriter
  intro i s t hs hz1 hz11
  have h := State.writes_of_exec (not_or.mpr ⟨hz1, hz11⟩) hs
  have hroute := h.route
  refine ⟨fun hi => ?_, h.lastSample, fun hd he => ?_, fun hi => ?_, fun m hd he => ?_, fun m hi => ?_, fun hd he => ?_,
    fun hi => ?_, h.led, h.intLatch, h.phase, h.tgt, h.smp, h.ctx, h.fault, h.cleared, h.halted⟩ <;> rw [hroute]
  · exact Selector.apply_activePort hi
  · exact Selector.apply_tw_en hd he
  · exact Selector.apply_tw_side hi
  · exact (congrArg FourWay.en (by cases m <;> rfl)).trans (Selector.apply_mux_en hd he)
  · exact (congrArg FourWay.sel (by cases m <;> rfl)).trans (Selector.apply_mux_sel hi)
  · exact Selector.apply_dec_en hd he
  · exact Selector.apply_dec_addr hi

end Sys2Proof.Machine
end

section
/-! PROOFS. Safety (R22, R31, R160, R199, R204, R268): the failures that end RESET and the handler, then what the invariant excludes
label by label, and what no step can do. -/

namespace Sys2Proof.Machine

/-! ### The failures of RESET and of the handler -/

namespace State

variable {s t : State} {i : Instr}

/-- EXP_INIT that fails at Z1 leaves a halted core of which nothing else is known but that a failure happened (R204). -/
theorem expInit_busfail_z1 (hb : s.busAnswer = .busfail) (hp : s.S.phase = .z1) :
    s.expInit.S.phase = .idle ∧ s.expInit.S.halted = true ∧ s.expInit.S.faultSeen = true ∧
      s.expInit.obs.responses = ⟨.caller, .eBusInit, none⟩ :: s.obs.responses := by
  obtain ⟨-, hresp⟩ := raiseBusFault_abandon_S (k := .init)
    (s := (s.useBus.record (.failed s.S.phase (encode .expInit) .init)).losesLed.losesLatch) nofun
  rw [recipient_reset (by simp [hp, Phase.isReset])] at hresp
  unfold expInit
  rw [hb]
  dsimp only
  rw [if_pos hp]
  exact ⟨rfl, rfl, rfl, by simpa [BusKind.code] using hresp⟩

/-- EXP_READ that fails at Z11 abandons RESET with the latch and `lastSample` unspecified (R204). -/
theorem expRead_none_z11 (hb : s.readByte = none) (hp : s.S.phase = .z11) :
    s.expRead.S = { s.S with
      lastSample := s.expRead.S.lastSample, intLatch := s.expRead.S.intLatch, faultSeen := true, phase := .idle } ∧
      s.expRead.obs.responses = ⟨.caller, .eBusRead, none⟩ :: s.obs.responses := by
  obtain ⟨hS, hresp⟩ := raiseBusFault_abandon_S (k := .read)
    (s := (s.useRead.record (.failed s.S.phase (encode .expRead) .read)).losesLatch) nofun
  rw [recipient_reset (by simp [hp, Phase.isReset])] at hresp
  unfold expRead
  rw [hb]
  dsimp only
  rw [if_pos hp, losesSample_S, hS, losesSample_obs, hresp]
  exact ⟨by simp, by simp; rfl⟩

/-- Either failure of RESET ends at IDLE, is remembered, and leaves a halted core halted (R204). -/
theorem ends_of_losesFields (hl : s.losesFields i) (hs : exec i s = .next t) :
    t.S.phase = .idle ∧ t.S.faultSeen = true ∧ (s.S.halted = true → t.S.halted = true) := by
  obtain ⟨hp, rfl, hb⟩ | ⟨hp, rfl, hb⟩ := hl
  · cases hs
    obtain ⟨hphase, hhalted, hfault, -⟩ := expInit_busfail_z1 hb hp
    exact ⟨hphase, hfault, fun _ => hhalted⟩
  · obtain ⟨hS, -⟩ := expRead_none_z11 hb hp
    rw [expRead_of_next hs, hS]
    exact ⟨rfl, rfl, id⟩

end State

/-- Settles O44: the core was halted by the RESET itself, and at Z11 its devices were off already. -/
theorem failedResetStaysHalted : Obligations.FailedResetStaysHalted := by
  unfold Obligations.FailedResetStaysHalted
  intro s h hm
  refine ⟨fun hp hb => ?_, fun hp hb => ?_⟩
  · have hn : s.nextMicro = some .expInit := by unfold State.nextMicro; rw [hp]
    obtain ⟨hphase, hhalted, hfault, hresp⟩ := State.expInit_busfail_z1 hb hp
    exact ⟨s.expInit, State.step_micro hm hn, hhalted, hfault, hphase, hresp⟩
  · obtain ⟨hhalted, hoff, hactive, hled⟩ := h.reset_done (.inl hp)
    obtain ⟨hS, hresp⟩ := State.expRead_none_z11 hb hp
    refine ⟨s.expRead, (State.step_micro hm (State.nextMicro_expRead_iff.mpr (.inr hp))).trans (State.exec_expRead_none hb), ?_⟩
    rw [hS]
    exact ⟨hhalted, rfl, rfl, hoff, hactive, hled, hresp⟩

/-- Settles O46: both are failures that abandon the operation, and neither write would have touched more than its own field. -/
theorem handlerBusFailures : Obligations.HandlerBusFailures := by
  unfold Obligations.HandlerBusFailures
  intro s hm
  refine ⟨fun hp hb => ?_, fun hp hc hb => ?_⟩
  · have hs := State.step_micro hm (State.nextMicro_expRead_iff.mpr (.inl hp))
    exact ⟨s.expRead, hs.trans (State.exec_expRead_none hb), (State.expRead_none hb (by simp [hp])).1⟩
  · have hs := State.step_micro hm (State.nextMicro_expWrite_iff.mpr ⟨hp, rfl⟩)
    exact ⟨s.expWrite _, hs, (State.expWrite_busfail hb (by simp [hc])).1⟩

/-! ### The invariant at reset and after every step -/

/-- Settles O47: at IDLE, with nothing enabled, connected, lit or waiting. -/
theorem resetStateSatisfiesInv : Obligations.ResetStateSatisfiesInv where
  table := by decide
  owned := rfl
  device := fun _ => (by decide : State.reset.S.allOff)
  ctx := by decide
  halt := by decide
  lamp := by decide
  swept := nofun

/-- Settles O48: the environment's moves, the label's micro-operation and the acceptance of a request each keep the invariant. -/
theorem stepKeepsInv : Obligations.StepKeepsInv := by
  unfold Obligations.StepKeepsInv
  exact fun s t h hs => State.inv_step h hs

/-! ### What the invariant excludes -/

/-- Settles O50: until TW_ENABLE the two-way switch is off, until DEC_ENABLE the decoder. -/
theorem nothingConnectedWhileProgramming : Obligations.NothingConnectedWhileProgramming := by
  unfold Obligations.NothingConnectedWhileProgramming
  intro s h
  have hd := h.device
  unfold Selector.deviceInv at hd
  refine ⟨fun hp p hpath => ?_, fun hp k hpwr => ?_⟩
  · have htw : s.S.tw.en = false := by
      simp only [List.mem_cons, List.not_mem_nil, or_false] at hp
      rcases hp with hp | hp | hp | hp | hp | hp | hp <;> simp only [hp] at hd
      · exact hd.1
      all_goals exact hd.1.1
    exact Bool.false_ne_true (htw.symm.trans hpath.1)
  · have hdec : s.S.dec.en = false := by
      simp only [List.mem_cons, List.not_mem_nil, or_false] at hp
      rcases hp with hp | hp | hp | hp | hp <;> simp only [hp] at hd
      · exact hd.2.2.2
      iterate 3 · exact hd.1.2.2.2
      · exact hd.2
    exact Bool.false_ne_true (hdec.symm.trans hpwr.1)

/-- Settles O52: the decoder asserts the line of its one address, and distinct routes have distinct addresses. -/
theorem atMostOnePortConnected : Obligations.AtMostOnePortConnected := by
  unfold Obligations.AtMostOnePortConnected
  intro s
  have hline : ∀ k₁ k₂, s.S.pwr k₁ → s.S.pwr k₂ → k₁ = k₂ := fun k₁ k₂ ⟨_, h₁⟩ ⟨_, h₂⟩ => h₁.symm.trans h₂
  refine ⟨hline, fun hr p q ⟨_, hp⟩ ⟨_, hq⟩ => ?_⟩
  by_contra hne
  exact (hr p q hne).1 (hline _ _ hp hq)

/-! ### What a step cannot do -/

namespace State

variable {s t u : State} {i : Instr}

/-- A label that names a side, a selection or an address finds its device off (R160, R268). -/
theorem breaks_eq_false (h : s.inv) (hn : s.nextMicro = some i) : s.S.breaks i = false := by
  have hd := h.device
  unfold Selector.deviceInv at hd
  unfold nextMicro at hn
  have hmux : ∀ m, s.S.allOff → (s.S.mux m).en = false := fun m ⟨_, h0, h1, _⟩ => by cases m <;> assumption
  cases hp : s.S.phase <;> simp only [hp, Option.some.injEq, reduceCtorEq] at hd hn <;> subst hn
  case c5 => exact hd.2.2.2
  case c6 => exact hmux _ hd.1
  case c7 => exact hd.1.1
  case z6 => exact hd.1
  case z7 | z8 => exact hmux _ hd
  case z9 => exact hd.2.2.2
  all_goals rfl

theorem breaks_eq_false_of_isPublic (hi : i.isPublic = true) (S : Selector) : S.breaks i = false := by
  cases i
  case select | disconnect | status | irq | reset | halt => rfl
  all_goals cases hi

@[simp] theorem refuse_hazard (s : State) (w : Word16) : (s.refuse w).obs.hazard = s.obs.hazard := by
  unfold refuse; repeat' split
  all_goals simp

/-- The environment's moves never mark the trace. -/
theorem envMove_hazard (s : State) (e : EnvEvent) : (s.envMove e).obs.hazard = s.obs.hazard := by
  cases e with
  | panel b n => simp only [envMove, panelMoves]; split <;> simp
  | request w n => simp only [envMove, present]; split <;> simp
  | powerCycle => rfl

/-- A power failure ends halted at IDLE, and any other move of the environment writes nothing of the record but the latch (R56, R251). -/
theorem envMove_S (s : State) (e : EnvEvent) :
    ((s.envMove e).S.halted = true ∧ (s.envMove e).S.phase = .idle) ∨
      (s.envMove e).S = { s.S with intLatch := (s.envMove e).S.intLatch } := by
  cases e with
  | panel b n => right; simp only [envMove, panelMoves]; split <;> simp [setLatch]
  | request w n => right; simp only [envMove, present]; split <;> simp
  | powerCycle => exact .inl ⟨rfl, rfl⟩

end State

/-- Settles O54: the label's micro-operation breaks no precondition, and nothing else marks the trace. -/
theorem sequencerBreaksNoPrecondition : Obligations.SequencerBreaksNoPrecondition := by
  unfold Obligations.SequencerBreaksNoPrecondition
  intro s t h hs
  cases State.move_of_step hs with
  | env hu _ e he => rw [he, State.envMove_hazard, hu.obs]
  | outside _ hb => exact absurd h.owned hb
  | micro hu i hn he =>
    rw [(State.keeps_of_exec he).hazard, hu.S, State.breaks_eq_false h hn, Bool.or_false, hu.obs]
  | request hu _ i hi _ he =>
    rw [(State.keeps_of_exec he).hazard, State.breaks_eq_false_of_isPublic hi, Bool.or_false, hu.obs]
  | malformed hu he => rw [he, State.malformed_hazard, hu.obs]
  | nothing hu he => rw [he, hu.obs]

/-- A micro-operation that breaks no precondition does not move the address of an enabled decoder. -/
theorem Selector.apply_dec_addr_of_enabled {S : Selector} {i : Instr} (hb : S.breaks i = false) (hen : S.dec.en = true) :
    (S.apply i).dec.addr = S.dec.addr := by
  refine Selector.apply_dec_addr ?_
  rintro a rfl
  exact Bool.false_ne_true (hb.symm.trans hen)

/-- Settles O53: the address of an enabled decoder is written by a broken precondition alone. -/
theorem powerIsNeverHandedOver : Obligations.PowerIsNeverHandedOver := by
  unfold Obligations.PowerIsNeverHandedOver
  intro s t k₁ k₂ h hs hends ⟨hen, hk₁⟩ ⟨_, hk₂⟩
  suffices haddr : t.S.dec.addr = s.S.dec.addr from hk₁.symm.trans (haddr.symm.trans hk₂)
  have hnot : ¬ (t.S.halted = true ∧ t.S.phase = .idle) := by
    rintro ⟨hh, hp⟩
    rcases hends with hends | hends
    · exact Bool.false_ne_true (hends.symm.trans hh)
    · exact hends hp
  cases State.move_of_step hs with
  | env hu _ e he =>
    subst he
    rw [(State.envMove_S _ e).resolve_left hnot, hu.S]
  | outside _ hb => exact absurd h.owned hb
  | @micro u hu i hn he =>
    by_cases hl : u.losesFields i
    · obtain ⟨hp, -, hh⟩ := State.ends_of_losesFields hl he
      have hreset : s.S.phase.isReset = true := by
        rw [← hu.S]
        rcases hl with ⟨hp, -⟩ | ⟨hp, -⟩ <;> rw [hp] <;> rfl
      exact absurd ⟨hh (hu.S ▸ h.halted_of_reset hreset), hp⟩ hnot
    · rw [(State.writes_of_exec hl he).route, hu.S]
      exact Selector.apply_dec_addr_of_enabled (State.breaks_eq_false h hn) hen
  | @request u hu hp i hi _ he =>
    have hl : ¬ u.losesFields i := by
      rintro (⟨-, rfl, -⟩ | ⟨-, rfl, -⟩) <;> cases hi
    rw [(State.writes_of_exec hl he).route, Selector.apply_of_not_busFree (State.busFree_of_isPublic hi), hu.S]
  | malformed hu he => rw [he, State.malformed_S, hu.S]
  | nothing hu he => rw [he, hu.S]

/-! ### Source step 1 -/

/-- Every enable of `T` is one of `S`, with the same side, selections and address. -/
structure Selector.Below (T S : Selector) : Prop where
  tw : T.tw.en = true → S.tw.en = true
  side : T.tw.side = S.tw.side
  mux : ∀ m, (T.mux m).en = true → (S.mux m).en = true
  sel : ∀ m, (T.mux m).sel = (S.mux m).sel
  dec : T.dec.en = true → S.dec.en = true
  addr : T.dec.addr = S.dec.addr

namespace Selector

variable {S T : Selector} {tab : PortTable} {p : Port}

theorem Below.pwr (h : T.Below S) {k : BitVec 3} : T.pwr k → S.pwr k :=
  fun ⟨hen, haddr⟩ => ⟨h.dec hen, h.addr ▸ haddr⟩

theorem Below.dataPath (h : T.Below S) : T.dataPath tab p → S.dataPath tab p :=
  fun ⟨htw, hside, hmux, hsel⟩ => ⟨h.tw htw, h.side ▸ hside, h.mux _ hmux, h.sel _ ▸ hsel⟩

theorem Below.connected (h : T.Below S) : T.connected tab p → S.connected tab p :=
  fun ⟨hpath, hpwr⟩ => ⟨h.dataPath hpath, h.pwr hpwr⟩

/-- The four disables of source step 1 take an enable away and do nothing else (R152). -/
theorem below_disable {i : Instr} (hi : i ∈ Machine.allOff) (l : Phase) : ({ S.apply i with phase := l } : Selector).Below S := by
  simp only [Machine.allOff, List.mem_cons, List.not_mem_nil, or_false] at hi
  rcases hi with rfl | rfl | rfl | rfl
  · exact ⟨nofun, rfl, fun _ => id, fun _ => rfl, id, rfl⟩
  · exact ⟨id, rfl, fun m => by cases m; exacts [nofun, id], fun m => by cases m <;> rfl, id, rfl⟩
  · exact ⟨id, rfl, fun m => by cases m; exacts [id, nofun], fun m => by cases m <;> rfl, id, rfl⟩
  · exact ⟨id, rfl, fun _ => id, fun _ => rfl, nofun, rfl⟩

end Selector

/-- The labels of source step 1 name its four disables (R152, R154). -/
theorem State.nextMicro_of_step_one {s : State} (hp : s.S.phase ∈ [Phase.c1, .c2, .c3, .c4, .d1, .d2, .d3, .d4]) :
    ∃ i ∈ allOff, s.nextMicro = some i := by
  unfold State.nextMicro
  simp only [List.mem_cons, List.not_mem_nil, or_false] at hp
  rcases hp with hp | hp | hp | hp | hp | hp | hp | hp <;> simp [hp, allOff]

/-- Settles O51: the label names one of the four disables. -/
theorem stepOneOnlyDisconnects : Obligations.StepOneOnlyDisconnects := by
  unfold Obligations.StepOneOnlyDisconnects
  intro s t hm hp hs
  obtain ⟨i, hi, hn⟩ := State.nextMicro_of_step_one hp
  have hbus : busFree i = true := by
    simp only [allOff, List.mem_cons, List.not_mem_nil, or_false] at hi
    rcases hi with rfl | rfl | rfl | rfl <;> rfl
  cases (State.step_setter s hm hbus hn).symm.trans hs
  have hbelow := Selector.below_disable (S := s.S) hi s.S.phase.succ
  exact ⟨fun _ => hbelow.pwr, fun _ => ⟨hbelow.dataPath, hbelow.connected⟩⟩

/-! ### `faultSeen` and the handler -/

/-- Settles O58: only RESET clears it, and it does so when it is accepted. -/
theorem faultSeenIsStickyUntilReset : Obligations.FaultSeenIsStickyUntilReset := by
  unfold Obligations.FaultSeenIsStickyUntilReset
  intro s t ⟨hturns, hbare⟩ hs hseen hclear
  have hsame : t.S ≠ s.S := fun h => Bool.false_ne_true (hclear.symm.trans (h ▸ hseen))
  have hreset : ∀ {u : State} {i : Instr}, u.S = s.S → exec i u = .next t → i = .reset := fun {u i} hu he => by
    by_cases hl : u.losesFields i
    · exact absurd (hclear.symm.trans (State.ends_of_losesFields hl he).2.1) Bool.false_ne_true
    · exact (State.writes_of_exec hl he).cleared (hu ▸ hseen) hclear
  cases State.move_of_step hs with
  | env _ ht => exact absurd hturns ht
  | outside _ hb => exact absurd hbare hb
  | micro hu i hn he =>
    obtain rfl := hreset hu.S he
    unfold State.nextMicro at hn
    cases hp : s.S.phase <;> simp [hp] at hn
  | @request u hu hp i _ hw he =>
    obtain rfl := hreset hu.S he
    obtain ⟨l, n, -, hexec⟩ := State.exec_reset (s := u) (by rw [hu.S, hp])
    cases hexec.symm.trans he
    exact ⟨hp, rfl, hw⟩
  | malformed hu he => exact absurd (he ▸ (State.malformed_S _).trans hu.S) hsame
  | nothing hu he => exact absurd (he ▸ hu.S) hsame

/-- Of the labels that name SET_ACTIVE the one outside RESET and the disconnect connects the target (R134). -/
theorem State.setActive_of_nextMicro {s : State} {v : Option Port} (hn : s.nextMicro = some (.setActive v))
    (hr : s.S.phase.isReset = false) (hd : s.S.phase.isDisconnect = false) : v = some s.S.tgt := by
  unfold State.nextMicro at hn
  cases hp : s.S.phase <;> simp_all [Phase.isReset, Phase.isDisconnect]

/-- Settles O59: a running handler is in no disconnect, and elsewhere SET_ACTIVE connects. -/
theorem handlerNeverDisconnects : Obligations.HandlerNeverDisconnects := by
  unfold Obligations.HandlerNeverDisconnects
  intro s t h hm hp hr hc hs ha
  obtain ⟨i, hn⟩ := Option.ne_none_iff_exists'.mp (mt State.idle_of_nextMicro hp)
  have he : exec i s = .next t := (State.step_micro hm hn).symm.trans hs
  have hl : ¬ s.losesFields i := by
    rintro (⟨hz, -⟩ | ⟨hz, -⟩) <;> rw [hz] at hr <;> cases hr
  rw [(State.writes_of_exec hl he).route]
  obtain ⟨-, -, hdisconnect, -, -⟩ := h.ctx
  by_cases hi : ∃ v, i = .setActive v
  · obtain ⟨v, rfl⟩ := hi
    have hd : s.S.phase.isDisconnect = false := by simpa [hc] using hdisconnect
    rw [State.setActive_of_nextMicro hn hr hd]
    exact Option.some_ne_none _
  · rw [Selector.apply_activePort fun v hv => hi ⟨v, hv⟩]
    exact ha

end Sys2Proof.Machine
end

section
/-! PROOFS. The priority mux, as a statement about every table (R189, R226). -/

namespace Sys2Proof.Machine

/-- Settles O34: the priority mux is the search for the least port, and a well-formed table has one for every bit. -/
theorem priorityIsLeastReleasedPort : Obligations.PriorityIsLeastReleasedPort := by
  unfold Obligations.PriorityIsLeastReleasedPort
  intro t rising ht
  refine ⟨?_, fun hr => ?_⟩
  · rintro rfl
    exact prio_zero
  · obtain ⟨p, hp⟩ := exists_prio_eq_some ht hr
    exact ⟨p, hp, prio_eq_some_iff.mp hp⟩

end Sys2Proof.Machine
end

section
/-! PROOFS. Whole runs of the route sequencer (R102, R152, R154, R173, R185, R189): the connect and the disconnect as one run lemma each,
the refresh for each context, and SELECT and the handler composed of them. -/

namespace Sys2Proof.Machine

namespace State

variable {s t : State} {i : Instr} {rest : List Word16}

theorem setPhase_self {l : Phase} (hp : s.S.phase = l) : s.setPhase l = s := by
  subst hp; rfl

/-- After the sequencer's own step it is still the core's move. -/
theorem coreMoves_of_exec (hm : s.coreMoves) (hs : exec i s = .next t) : t.coreMoves := by
  obtain ⟨hturns, hbare⟩ := hm
  have hkeeps := keeps_of_exec hs
  exact ⟨hkeeps.turns.trans hturns, hkeeps.bare.trans hbare⟩

end State

/-! ### The disconnect -/

/-- Settles O31: the run of `disconnectAll()`, its words written out. -/
theorem disconnectSequence : Obligations.DisconnectSequence := by
  unfold Obligations.DisconnectSequence
  intro s hm hp
  have hrun := State.run_disconnectAll hm 0
  rw [State.setPhase_self hp] at hrun
  exact ⟨_, hrun, rfl, rfl, rfl, rfl, rfl⟩

namespace State

variable {s : State} {i : Instr} {rest : List Word16}

/-- What is accepted as a DISCONNECT runs as one: the step is that of a waiting DISCONNECT (R150, R151). -/
theorem run_as_disconnect (hh : s.S.halted = false) (h : s.aboutToAccept i rest) (hb : s.busAnswer = .ok)
    (hs : step s = .next ((({ s with env.requests := rest } : State).setCtx .cmd).setPhase .d1)) :
    ∃ t, Host.Core.run Sys2Proof.core 7 s = .next t ∧ t.S = s.S.disconnected ∧
      t.obs.responses = ⟨.caller, .ok, none⟩ :: s.obs.responses ∧ t.env.requests = rest := by
  obtain ⟨hm, hp, -⟩ := h
  have h' : ({ s with env.requests := encode .disconnect :: rest } : State).aboutToAccept .disconnect rest :=
    ⟨hm, hp, encode .disconnect, rfl, rfl⟩
  have hs' := (step_request h' rfl).trans (exec_disconnect hh hp)
  have hrun := run_disconnect (s := { s with env.requests := encode .disconnect :: rest }) hh h' hb 0
  rw [run_of_step Sys2Proof.core _ hs'] at hrun
  exact ⟨_, run_step 6 hs hrun, rfl, rfl, rfl⟩

end State

/-- Settles O38: SELECT of an invalid index is accepted as the DISCONNECT it stands for. -/
theorem disconnectEnergisesNothing : Obligations.DisconnectEnergisesNothing := by
  unfold Obligations.DisconnectEnergisesNothing
  intro s i rest hh h hb hi
  have ⟨_, hp, _⟩ := h
  refine State.run_as_disconnect hh h hb ?_
  obtain rfl | ⟨idx, rfl, hidx⟩ := hi
  · exact (State.step_request h rfl).trans (State.exec_disconnect hh hp)
  · exact (State.step_request h rfl).trans (State.exec_select_invalid hidx hh hp)

/-! ### The connect -/

/-- Every route device off, its settings kept (R152). -/
def Selector.off (S : Selector) : Selector :=
  { S with
    tw := ⟨false, S.tw.side⟩, mux0 := ⟨false, S.mux0.sel⟩, mux1 := ⟨false, S.mux1.sel⟩, dec := ⟨false, S.dec.addr⟩ }

theorem Selector.off_allOff (S : Selector) : S.off.allOff := ⟨rfl, rfl, rfl, rfl⟩

/-- The record after a connect of the port `p` with the descriptor `d`, at L1: its devices on with its settings, the other four-way
switch off (R152). -/
def Selector.connect (S : Selector) (p : Port) (d : PortDescriptor) : Selector :=
  { S.off.withMux d.muxSide ⟨true, d.muxSelect⟩ with
    activePort := some p, tw := ⟨true, d.twoWaySide⟩, dec := ⟨true, d.decoderAddress⟩, phase := .l1 }

namespace Selector

variable (S : Selector) (p : Port)

theorem connect_frame (d : PortDescriptor) :
    S.connect p d = { S with
      activePort := some p, tw := (S.connect p d).tw, mux0 := (S.connect p d).mux0, mux1 := (S.connect p d).mux1
      dec := (S.connect p d).dec, phase := .l1 } := by
  unfold connect
  cases d.muxSide <;> rfl

@[simp] theorem connect_activePort (d : PortDescriptor) : (S.connect p d).activePort = some p := rfl
@[simp] theorem connect_lastSample (d : PortDescriptor) : (S.connect p d).lastSample = S.lastSample := by rw [connect_frame]
@[simp] theorem connect_intLatch (d : PortDescriptor) : (S.connect p d).intLatch = S.intLatch := by rw [connect_frame]
@[simp] theorem connect_smp (d : PortDescriptor) : (S.connect p d).smp = S.smp := by rw [connect_frame]
@[simp] theorem connect_ctx (d : PortDescriptor) : (S.connect p d).ctx = S.ctx := by rw [connect_frame]
@[simp] theorem connect_faultSeen (d : PortDescriptor) : (S.connect p d).faultSeen = S.faultSeen := by rw [connect_frame]
@[simp] theorem connect_halted (d : PortDescriptor) : (S.connect p d).halted = S.halted := by rw [connect_frame]

theorem connect_onRoute (tab : PortTable) : (S.connect p (tab.get p)).onRoute tab p := by
  unfold onRoute connect
  cases (tab.get p).muxSide <;> exact ⟨rfl, rfl, rfl, rfl, rfl, rfl, rfl⟩

theorem connect_other_sel (d : PortDescriptor) :
    ((S.connect p d).mux d.muxSide.other).sel = (S.mux d.muxSide.other).sel := by
  unfold connect
  cases d.muxSide <;> rfl

end Selector

namespace State

variable {s : State}

/-- What everything-off writes into the trace from the label `l` on, newest first (R152). -/
def offTrace (l : Phase) : List TraceEntry :=
  [.done l.succ.succ.succ (encode .decDisable), .done l.succ.succ (encode (.muxDisable .second)),
    .done l.succ (encode (.muxDisable .first)), .done l (encode .twDisable)]

/-- The four disables of source step 1, from C1 and in RESET from Z2 (R152, R203). -/
theorem run_allOff {l : Phase} (hl : l = .c1 ∨ l = .z2) (hm : s.coreMoves) (k : Nat) :
    Host.Core.run Sys2Proof.core (k + 4) (s.setPhase l) =
      Host.Core.run Sys2Proof.core k
        (({ s with S := s.S.off, obs.trace := offTrace l ++ s.obs.trace } : State).setPhase l.succ.succ.succ.succ) := by
  rcases hl with rfl | rfl <;> exact
    run_step _ (step_setter_keeping (i := .twDisable) hm rfl rfl rfl) <|
    run_step _ (step_setter_keeping (i := .muxDisable .first) hm rfl rfl rfl) <|
    run_step _ (step_setter_keeping (i := .muxDisable .second) hm rfl rfl rfl) <|
    run_step _ (step_setter_keeping (i := .decDisable) hm rfl rfl rfl) rfl

/-- The settings of a connect, labels C5 to C8, written while everything is off (R152, R268). -/
theorem run_connect_program {d : PortDescriptor} (hm : s.coreMoves) (hoff : s.S.allOff)
    (hd : s.par.table.get s.S.tgt = d) (k : Nat) :
    Host.Core.run Sys2Proof.core (k + 4) (s.setPhase .c5) =
      Host.Core.run Sys2Proof.core k (({ s with
        S := { s.S.withMux d.muxSide ⟨true, d.muxSelect⟩ with
          tw := ⟨s.S.tw.en, d.twoWaySide⟩, dec := ⟨s.S.dec.en, d.decoderAddress⟩ }
        obs.trace := [.done .c8 (encode (.muxEnable d.muxSide)), .done .c7 (encode (.twRoute d.twoWaySide)),
          .done .c6 (encode (.muxSelect d.muxSide d.muxSelect)), .done .c5 (encode (.decAddr d.decoderAddress))] ++
            s.obs.trace } : State).setPhase .c9) := by
  obtain ⟨htw, h0, h1, hdec⟩ := hoff
  obtain ⟨index, inputBit, outputBit, m, n, side, a⟩ := d
  have hc5 : (s.setPhase .c5).nextMicro = some (.decAddr a) := by simp [nextMicro, hd]
  have hc6 : (s.setPhase .c6).nextMicro = some (.muxSelect m n) := by simp [nextMicro, hd]
  have hc7 : (s.setPhase .c7).nextMicro = some (.twRoute side) := by simp [nextMicro, hd]
  have hc8 : (s.setPhase .c8).nextMicro = some (.muxEnable m) := by simp [nextMicro, hd]
  cases m
  · exact run_step _ (step_setter_keeping (i := .decAddr a) hm rfl hc5 hdec) <|
      run_step _ (step_setter_keeping (i := .muxSelect .first n) hm rfl hc6 h0) <|
      run_step _ (step_setter_keeping (i := .twRoute side) hm rfl hc7 htw) <|
      run_step _ (step_setter_keeping (i := .muxEnable .first) hm rfl hc8 rfl) rfl
  · exact run_step _ (step_setter_keeping (i := .decAddr a) hm rfl hc5 hdec) <|
      run_step _ (step_setter_keeping (i := .muxSelect .second n) hm rfl hc6 h1) <|
      run_step _ (step_setter_keeping (i := .twRoute side) hm rfl hc7 htw) <|
      run_step _ (step_setter_keeping (i := .muxEnable .second) hm rfl hc8 rfl) rfl

/-- The last four labels of a connect, C9 to C12: power, the wait, the data path, and `activePort` (R152). -/
theorem run_connect_close (hm : s.coreMoves) (k : Nat) :
    Host.Core.run Sys2Proof.core (k + 4) (s.setPhase .c9) =
      Host.Core.run Sys2Proof.core k { s with
        S := { s.S with
          activePort := some s.S.tgt, tw := ⟨true, s.S.tw.side⟩, dec := ⟨true, s.S.dec.addr⟩, phase := .l1 }
        obs.trace := [.done .c12 (encode (.setActive (some s.S.tgt))), .done .c11 (encode .twEnable),
          .done .c10 (encode .waitSettle), .done .c9 (encode .decEnable)] ++ s.obs.trace } :=
  run_step _ (step_setter_keeping (i := .decEnable) hm rfl rfl rfl) <|
  run_step _ (step_setter_keeping (i := .waitSettle) hm rfl rfl rfl) <|
  run_step _ (step_setter_keeping (i := .twEnable) hm rfl rfl rfl) <|
  run_step _ (step_setter_keeping (i := .setActive (some s.S.tgt)) hm rfl rfl rfl) rfl

/-- What `connectPort(p)` writes into the trace, newest first (R152). -/
def connectTrace (p : Port) (d : PortDescriptor) : List TraceEntry :=
  [.done .c12 (encode (.setActive (some p))), .done .c11 (encode .twEnable), .done .c10 (encode .waitSettle),
    .done .c9 (encode .decEnable), .done .c8 (encode (.muxEnable d.muxSide)), .done .c7 (encode (.twRoute d.twoWaySide)),
    .done .c6 (encode (.muxSelect d.muxSide d.muxSelect)), .done .c5 (encode (.decAddr d.decoderAddress)),
    .done .c4 (encode .decDisable), .done .c3 (encode (.muxDisable .second)), .done .c2 (encode (.muxDisable .first)),
    .done .c1 (encode .twDisable)]

/-- The twelve steps of `connectPort(tgt)`, whoever started it and whatever was enabled before (R152, R155). -/
theorem run_connectPort {d : PortDescriptor} (hm : s.coreMoves) (hd : s.par.table.get s.S.tgt = d) (k : Nat) :
    Host.Core.run Sys2Proof.core (k + 12) (s.setPhase .c1) =
      Host.Core.run Sys2Proof.core k { s with
        S := s.S.connect s.S.tgt d
        obs.trace := connectTrace s.S.tgt d ++ s.obs.trace } := by
  refine (run_allOff (.inl rfl) hm (k + 8)).trans ?_
  refine (run_connect_program (s := { s with S := s.S.off, obs.trace := _ }) hm s.S.off_allOff hd (k + 4)).trans ?_
  refine (run_connect_close (by exact hm) k).trans ?_
  obtain ⟨index, inputBit, outputBit, m, n, side, a⟩ := d
  cases m <;> rfl

end State

/-- Settles O30: the run of `connectPort(tgt)`, its words written out. -/
theorem connectSequence : Obligations.ConnectSequence := by
  unfold Obligations.ConnectSequence
  intro s hm hp
  have hrun := State.run_connectPort hm rfl 0
  rw [State.setPhase_self hp] at hrun
  exact ⟨_, hrun, rfl, rfl, Selector.connect_onRoute _ _ _, Selector.connect_other_sel _ _ _, Selector.connect_frame _ _ _, rfl,
    rfl, rfl, rfl⟩

/-! ### The refresh -/

namespace State

variable {s : State}

/-- At L1 only the handler has no caller (R98). -/
theorem recipient_l1 (hp : s.S.phase = .l1) :
    s.recipient = if s.S.ctx = .irq then .traceOnly else .caller := by
  unfold recipient
  rw [hp]
  rfl

/-- The refresh of the handler goes on to I3 (R173). -/
theorem step_refresh_irq (hm : s.coreMoves) (hp : s.S.phase = .l1) (hc : s.S.ctx = .irq) (hb : s.busAnswer = .ok) :
    step s = .next { s with
      S := { s.S with led := ledByte s.par.table s.S.activePort, phase := .i3 }
      env := s.useBus.env
      obs.trace := .done .l1 (encode (.expWrite (ledByte s.par.table s.S.activePort))) :: s.obs.trace } := by
  rw [step_refresh hm hp hb, useBus_eq]
  simp [afterRefresh, setPhase, setLed, record, hc]

/-- A refresh that fails ends a command or the handler with `E_BUS_WRITE` (R173, R214). -/
theorem step_refresh_abandons (hm : s.coreMoves) (hp : s.S.phase = .l1) (hc : s.S.ctx ≠ .halt) (hb : s.busAnswer = .busfail) :
    ∃ t, step s = .next t ∧ t.par = s.par ∧ t.S = { s.S with led := t.S.led, phase := .idle, faultSeen := true } ∧
      t.obs.responses = ⟨if s.S.ctx = .irq then .traceOnly else .caller, .eBusWrite, none⟩ :: s.obs.responses := by
  obtain ⟨hS, hresp⟩ := raiseBusFault_abandon_S (k := .write)
    (s := (s.useBus.record
      (.failed .l1 (encode (.expWrite (ledByte s.par.table s.S.activePort))) .write)).losesLed) (by simp [hc])
  rw [recipient_l1 (by simpa using hp)] at hresp
  exact ⟨_, step_refresh_busfail hm hp hb, by simp, by simp [hS], by simpa [BusKind.code] using hresp⟩

end State

/-- Settles O32: who started the sequence and what the bus answered decide. -/
theorem afterTheRefresh : Obligations.AfterTheRefresh := by
  unfold Obligations.AfterTheRefresh
  intro s hm hp
  cases hc : s.S.ctx with
  | cmd =>
    cases hb : s.busAnswer with
    | ok => exact ⟨_, State.step_refresh_cmd hm hp hc hb, rfl, fun _ _ => ⟨rfl, rfl⟩, nofun, nofun, nofun, nofun, nofun⟩
    | busfail =>
      obtain ⟨t, hs, hpar, hS, hresp⟩ := State.step_refresh_abandons hm hp (by simp [hc]) hb
      rw [hc] at hresp
      exact ⟨t, hs, hpar, nofun, nofun, nofun, fun _ _ => ⟨hS, hresp⟩, nofun, nofun⟩
  | irq =>
    cases hb : s.busAnswer with
    | ok => exact ⟨_, State.step_refresh_irq hm hp hc hb, rfl, nofun, fun _ _ => ⟨rfl, rfl⟩, nofun, nofun, nofun, nofun⟩
    | busfail =>
      obtain ⟨t, hs, hpar, hS, hresp⟩ := State.step_refresh_abandons hm hp (by simp [hc]) hb
      rw [hc] at hresp
      exact ⟨t, hs, hpar, nofun, nofun, nofun, nofun, fun _ _ => ⟨hS, hresp⟩, nofun⟩
  | halt =>
    obtain ⟨t, hs, hS, hresp, hok, hfail⟩ := State.step_refresh_halt hm hp hc
    refine ⟨t, hs, parametersAreReadOnly s t hs, nofun, nofun, fun hb _ => ?_, nofun, nofun, fun hb _ => ?_⟩
    · obtain ⟨hled, hfault⟩ := hok hb
      rw [hled, hfault] at hS
      exact ⟨hS, hresp⟩
    · rw [hfail hb] at hS
      exact ⟨hS, hresp⟩

/-! ### SELECT and the handler -/

namespace State

variable {s t : State} {b : Byte} {p : Port} {rest : List Word16}

/-- What every step keeps, a run keeps. -/
theorem run_keeps (M : Host.Core) {P : M.State → Prop} (hstep : ∀ s t, P s → M.step s = .next t → P t) {k : Nat}
    {s t : M.State} (h : P s) (hr : M.run k s = .next t) : P t := by
  induction k generalizing s with
  | zero => cases hr; exact h
  | succ k ih =>
    unfold Host.Core.run at hr
    split at hr
    · exact ih (hstep _ _ h ‹_›) hr
    all_goals cases hr

/-- A run keeps the invariant. -/
theorem inv_run {k : Nat} (h : s.inv) (hr : Host.Core.run Sys2Proof.core k s = .next t) : t.inv :=
  run_keeps Sys2Proof.core (P := State.inv) (fun _ _ => inv_step) h hr

/-- SELECT of another port: its acceptance, the connect, and the refresh that shows the port (R150, R171). -/
theorem run_select (hh : s.S.halted = false) (h : s.aboutToAccept (.select p.val) rest) (ha : s.S.activePort ≠ some p)
    (hb : s.busAnswer = .ok) :
    ∃ t, Host.Core.run Sys2Proof.core 14 s = .next t ∧ t.par = s.par ∧ t.env.requests = rest ∧
      t.S = { ({ s.S with ctx := .cmd, tgt := p } : Selector).connect p (s.par.table.get p) with
        led := ledByte s.par.table (some p), phase := .idle } ∧
      t.obs.responses = ⟨.caller, .ok, none⟩ :: s.obs.responses := by
  have ⟨hm, hp, _⟩ := h
  refine ⟨_, run_step _ ((step_request h rfl).trans (exec_select_other hh hp ha)) <|
    (run_connectPort (s := (({ s with env.requests := rest } : State).setCtx .cmd).setTgt p) hm rfl 1).trans <|
    run_step 0 (step_refresh_cmd hm rfl (Selector.connect_ctx _ _ _) hb) rfl, rfl, ?_, rfl, rfl⟩
  rw [useBus_requests]
  rfl

end State

/-- Settles O37: the invariant at the end of the run says that the route is the port's. -/
theorem selectConnectsPort : Obligations.SelectConnectsPort := by
  unfold Obligations.SelectConnectsPort
  intro s p rest hinv hh h ha hb
  obtain ⟨t, hrun, hpar, hreq, hS, hresp⟩ := State.run_select hh h ha hb
  have htinv := State.inv_run hinv hrun
  have hphase : t.S.phase = .idle := by rw [hS]
  have hhalted : t.S.halted = false := by rw [hS]; simpa using hh
  refine ⟨t, hrun, hphase, hhalted, by rw [hS]; rfl, hpar ▸ (htinv.settled_idle hphase hhalted).route, ?_, ?_, ?_, ?_, ?_, hresp, hreq,
    htinv⟩
  · rw [hS]; rfl
  · rw [hS]; simp
  · rw [hS]; simp
  · rw [hS]; simp
  · rw [hS]
    exact ({ s.S with ctx := .cmd, tgt := p } : Selector).connect_other_sel p (s.par.table.get p)

namespace State

variable {s : State} {b : Byte} {p : Port} {rest : List Word16}

/-- A read uses a free value only when the script is empty. -/
theorem useRead_free (s : State) :
    s.useRead.env.free = if s.env.readScript.isEmpty then s.env.free + 1 else s.env.free := by
  unfold useRead
  cases h : s.env.readScript <;> simp

/-- The bus answers after the handler's read as it answers after any read from the same scripts. -/
theorem busAnswer_afterRead (s : State) (rest : List Word16) (b : Byte) :
    ((s.atRead rest).afterRead b).busAnswer = s.useRead.busAnswer := by
  have henv : ((s.atRead rest).afterRead b).env =
      { (s.atRead rest).useRead.env with requests := ((s.atRead rest).afterRead b).env.requests } := clearLatch_env _ _
  refine busAnswer_congr ?_ ?_
  · rw [henv]; simp [atRead]
  · rw [henv]; simp only [useRead_free]; rfl

/-- The handler on a release: three steps to the decision, the connect, the refresh, and the sample stored (R185 to R190). -/
theorem run_release (hh : s.S.halted = false) (h : s.aboutToAccept .irq rest) (ht : s.par.table.wf) (hr : s.readByte = some b)
    (hb : s.useRead.busAnswer = .ok) (hprio : prio s.par.table (risingBits s.S.lastSample b) = some p)
    (ha : s.S.activePort ≠ some p) :
    ∃ t, Host.Core.run Sys2Proof.core 17 s = .next t ∧ t.par = s.par ∧
      t.S = { ({ s.S with ctx := .irq, phase := .i2, smp := b, intLatch := false, tgt := p } : Selector).connect p (s.par.table.get p) with
        led := ledByte s.par.table (some p), lastSample := b, phase := .idle } := by
  have ⟨hm, _⟩ := h
  have hrun := run_irq_to_decision hh h ht hr 14
  have hS := (s.atRead rest).afterRead_S b
  have hpar : ((s.atRead rest).afterRead b).par = s.par := afterRead_par _ _
  have hmv := coreMoves_afterRead (s := s.atRead rest) (b := b) hm
  have hbv := (busAnswer_afterRead s rest b).trans hb
  rw [dispatchEdge_select (p := p) (by rw [hS, hpar]; exact hprio), dispatchPort, if_neg (by rw [hS]; exact ha)] at hrun
  generalize hv : (s.atRead rest).afterRead b = v at *
  have hconnect := run_connectPort (s := v.setTgt p) hmv rfl 2
  have hctx : (v.setTgt p).S.ctx = .irq := by simp [hS, atRead]
  refine ⟨_, hrun.trans <| hconnect.trans <|
    run_step 1 (step_refresh_irq hmv rfl ((Selector.connect_ctx _ _ _).trans hctx) hbv) <| run_step 0 (step_i3 ?_ rfl) rfl,
    hpar, ?_⟩
  · obtain ⟨hturns, hbare⟩ := hmv
    exact ⟨(useBus_turns _).trans hturns, (useBus_bare _).trans hbare⟩
  · have hvS : (v.setTgt p).S = { s.S with ctx := .irq, phase := .i2, smp := b, intLatch := false, tgt := p } := by
      rw [setTgt, hS]; rfl
    rw [finish_S, record_S, setSample_S, hvS]
    simp [hpar]

end State

/-- Settles O41: the port the hypotheses describe is the one the priority mux answers, and the sample stored is the byte read. -/
theorem releaseSelectsLeastPort : Obligations.ReleaseSelectsLeastPort := by
  unfold Obligations.ReleaseSelectsLeastPort
  intro s p b rest hinv hh h hr hb hbit hleast ha
  obtain ⟨t, hrun, hpar, hS⟩ := State.run_release hh h hinv.table hr hb (prio_eq_some_iff.mpr ⟨hbit, hleast⟩) ha
  have hphase : t.S.phase = .idle := by rw [hS]
  have hhalted : t.S.halted = false := by rw [hS]; simpa using hh
  have hlast : t.S.lastSample = b := by rw [hS]
  refine ⟨t, hrun, hphase, by rw [hS]; rfl, hpar ▸ ((State.inv_run hinv hrun).settled_idle hphase hhalted).route, ?_, hlast, ?_, ?_,
    hhalted, ?_⟩
  · rw [hS]; rfl
  · rw [hS]; simp
  · rw [hS]; simp
  · rw [hlast, BitVec.and_comm]
    exact BitVec.and_not_self b

end Sys2Proof.Machine
end

section
/-! PROOFS. The run of RESET (R43, R203, R205): its two transactions, between them everything off and the settings, and the state it reaches. -/

namespace Sys2Proof.Machine

namespace State

variable {s : State} {b : Byte} {rest : List Word16}

/-- RESET's settings, labels Z6 to Z10, written while everything is off (R203, R268). -/
theorem run_reset_program (hm : s.coreMoves) (hoff : s.S.allOff) (k : Nat) :
    Host.Core.run Sys2Proof.core (k + 5) (s.setPhase .z6) =
      Host.Core.run Sys2Proof.core k (({ s with
        S := { s.S with
          activePort := none, tw := ⟨s.S.tw.en, s.par.resetSel.tw⟩, mux0 := ⟨s.S.mux0.en, s.par.resetSel.mux0⟩
          mux1 := ⟨s.S.mux1.en, s.par.resetSel.mux1⟩, dec := ⟨s.S.dec.en, s.par.resetSel.dec⟩ }
        obs.trace := [.done .z10 (encode (.setActive none)), .done .z9 (encode (.decAddr s.par.resetSel.dec)),
          .done .z8 (encode (.muxSelect .second s.par.resetSel.mux1)), .done .z7 (encode (.muxSelect .first s.par.resetSel.mux0)),
          .done .z6 (encode (.twRoute s.par.resetSel.tw))] ++ s.obs.trace } : State).setPhase .z11) := by
  obtain ⟨htw, h0, h1, hdec⟩ := hoff
  exact
    run_step _ (step_setter_keeping (i := .twRoute s.par.resetSel.tw) hm rfl rfl htw) <|
    run_step _ (step_setter_keeping (i := .muxSelect .first s.par.resetSel.mux0) hm rfl rfl h0) <|
    run_step _ (step_setter_keeping (i := .muxSelect .second s.par.resetSel.mux1) hm rfl rfl h1) <|
    run_step _ (step_setter_keeping (i := .decAddr s.par.resetSel.dec) hm rfl rfl hdec) <|
    run_step _ (step_setter_keeping (i := .setActive none) hm rfl rfl rfl) rfl

/-- RESET's last step makes the byte it read the reference and ends it (R203). -/
theorem step_z12 (hm : s.coreMoves) (hp : s.S.phase = .z12) :
    step s = .next ((s.setSample s.S.smp).record (.done s.S.phase (encode (.setSample s.S.smp)))).endReset := by
  rw [step_micro hm (nextMicro_setSample_iff.mpr ⟨.inr hp, rfl⟩), exec_setSample, afterMicro_setSample_z12 hp rfl]

/-- The read of RESET stores the byte and, the core being halted, notifies nobody (R111, R113, R203). -/
theorem step_z11 (hm : s.coreMoves) (hp : s.S.phase = .z11) (hh : s.S.halted = true) (hb : s.readByte = some b) :
    ∃ t, step s = .next t ∧ t.coreMoves ∧ t.S = { s.S with smp := b, intLatch := false, phase := .z12 } ∧ t.par = s.par ∧
      t.env.requests = s.env.requests ∧ t.obs.responses = s.obs.responses := by
  have hs : step s = .next s.expRead :=
    (step_micro hm (nextMicro_expRead_iff.mpr (.inr hp))).trans (exec_expRead (by simp [hp]))
  have hkeeps := keeps_expRead s
  have he := expRead_of_ne hb (by simp [hp])
  refine ⟨s.expRead, hs, ⟨hkeeps.turns.trans hm.1, hkeeps.bare.trans hm.2⟩, ?_, hkeeps.par, ?_, ?_⟩
  · rw [he, setPhase_S, record_S, read_S, if_pos hp]
  · rw [expRead_some_env hb]; simp [hh]
  · rw [he]; simp

/-- The twelve steps of RESET whose two transactions complete (R43, R203). -/
theorem run_resetSequence (hm : s.coreMoves) (hp : s.S.phase = .z1) (hh : s.S.halted = true) (hb : s.busAnswer = .ok)
    (hr : (s.useBus.useFree 1).readByte = some b) :
    ∃ t, Host.Core.run Sys2Proof.core 12 s = .next t ∧
      t.S = { activePort := none, lastSample := b, tw := ⟨false, s.par.resetSel.tw⟩, mux0 := ⟨false, s.par.resetSel.mux0⟩
              mux1 := ⟨false, s.par.resetSel.mux1⟩, dec := ⟨false, s.par.resetSel.dec⟩, led := 0xFF#8, intLatch := false
              phase := .idle, tgt := t.S.tgt, smp := t.S.smp, ctx := t.S.ctx, faultSeen := s.S.faultSeen, halted := false } ∧
      t.par = s.par ∧ t.env.requests = s.env.requests ∧
      t.obs.responses = ⟨.caller, .ok, none⟩ :: s.obs.responses := by
  have hn : s.nextMicro = some .expInit := by unfold nextMicro; rw [hp]
  have hz1 : step s = .next s.expInit := step_micro hm hn
  rw [expInit_ok hb, if_pos hn, hp] at hz1
  generalize hv : (s.useBus.setLed 0xFF#8).losesLatch.record (.done .z1 (encode .expInit)) = v at hz1
  have hmv : v.coreMoves := by subst hv; exact ⟨by simpa using hm.1, by simpa using hm.2⟩
  have hpar : v.par = s.par := by subst hv; simp
  have hreq : v.env.requests = s.env.requests := by subst hv; simp
  have hresp : v.obs.responses = s.obs.responses := by subst hv; simp
  have hrv : v.readByte = some b := by subst hv; exact (readByte_congr rfl rfl rfl).trans hr
  have hSv : v.S = { s.S with led := 0xFF#8, intLatch := Config.freeBool s.useBus.env.free } := by subst hv; simp [setLed_S]
  obtain ⟨w, hw, hmw, hSw, hparw, hreqw, hrespw⟩ := step_z11
    (s := (({ v with
        S := { v.S.off with
          activePort := none, tw := ⟨v.S.off.tw.en, v.par.resetSel.tw⟩, mux0 := ⟨v.S.off.mux0.en, v.par.resetSel.mux0⟩
          mux1 := ⟨v.S.off.mux1.en, v.par.resetSel.mux1⟩, dec := ⟨v.S.off.dec.en, v.par.resetSel.dec⟩ }
        obs.trace := _ } : State).setPhase .z11)) hmv rfl (by rw [setPhase_halted]; simpa [Selector.off, hSv] using hh)
      ((readByte_congr rfl rfl rfl).trans hrv)
  refine ⟨_, run_step 11 hz1 <| (run_allOff (.inr rfl) hmv 7).trans <|
    (run_reset_program (s := { v with S := v.S.off, obs.trace := _ }) hmv v.S.off_allOff 2).trans <|
    run_step 1 hw <| run_step 0 (step_z12 hmw (by rw [hSw])) rfl, ?_, ?_, ?_, ?_⟩
  · rw [endReset_S, record_S, setSample_S, hSw, setPhase_S, hpar]
    simp [Selector.off, hSv]
  · exact hparw.trans hpar
  · exact hreqw.trans hreq
  · rw [endReset_responses, recipient_reset (by rw [record_S, setSample_phase, hSw]; rfl), record_responses, setSample_obs,
      hrespw]
    exact congrArg _ hresp

end State

/-- Settles O43: the acceptance clears `faultSeen`, halts the core and refuses what waits; the chain then writes every other field. -/
theorem resetReachesFreshState : Obligations.ResetReachesFreshState := by
  unfold Obligations.ResetReachesFreshState
  intro s u b rest h hs hb hr
  have ⟨hm, hp, _⟩ := h
  obtain ⟨l, n, ha, hexec⟩ := State.exec_reset (s := { s with env.requests := rest }) hp
  cases (((State.step_request h rfl).trans hexec).symm.trans hs)
  obtain ⟨t, hrun, hS, hpar, hreq, hresp⟩ := State.run_resetSequence (by exact hm) rfl rfl hb hr
  have hactive : t.S.activePort = none := by rw [hS]
  refine ⟨t, l, State.run_step 12 hs hrun, hS, ?_, ?_, hpar, hreq, ?_, ha, hresp⟩
  · unfold Selector.routeInv
    rw [hactive, hS]
    exact ⟨rfl, rfl, rfl, rfl⟩
  · rw [hS]; rfl
  · rw [hreq]; simp

end Sys2Proof.Machine
end

section
/-! PROOFS. Every operation ends (R67, R213, R214): each label allows a number of steps, and each step of the core takes one of them at least. -/

namespace Sys2Proof.Machine

/-- How many steps of the core are left at most from a label (R155, R173, R186, R203). -/
def Phase.remaining : Phase → Nat
  | .idle => 0
  | .i3 => 1
  | .l1 => 2
  | .c12 => 3
  | .c11 => 4
  | .c10 => 5
  | .c9 => 6
  | .c8 => 7
  | .c7 => 8
  | .c6 => 9
  | .c5 => 10
  | .c4 => 11
  | .c3 => 12
  | .c2 => 13
  | .c1 => 14
  | .d5 => 3
  | .d4 => 4
  | .d3 => 5
  | .d2 => 6
  | .d1 => 7
  | .i2 => 15
  | .i1 => 16
  | .z12 => 1
  | .z11 => 2
  | .z10 => 3
  | .z9 => 4
  | .z8 => 5
  | .z7 => 6
  | .z6 => 7
  | .z5 => 8
  | .z4 => 9
  | .z3 => 10
  | .z2 => 11
  | .z1 => 12

theorem Phase.remaining_le (l : Phase) : l.remaining ≤ 16 := by
  cases l <;> decide

theorem Phase.remaining_pos {l : Phase} (h : l ≠ .idle) : 0 < l.remaining := by
  cases l <;> simp_all [Phase.remaining]

theorem Phase.remaining_succ {l : Phase} (h : State.chainLabel l = true) : l.succ.remaining < l.remaining := by
  cases l <;> simp_all [State.chainLabel, Phase.succ, Phase.remaining]

namespace State

variable {s t : State} {i : Instr}

/-- With a well-formed table no operation is refused (R273, U12). -/
theorem exec_total (ht : s.par.table.wf) (i : Instr) : ∃ t, exec i s = .next t := by
  cases i
  case expRead => exact ⟨_, exec_expRead fun _ => ht⟩
  all_goals exact ⟨_, rfl⟩

/-- The sequencer's moves bring it nearer to IDLE (R155, R173, R187 to R190). -/
theorem remaining_advance (hp : s.S.phase ≠ .idle) : s.advance.S.phase.remaining < s.S.phase.remaining := by
  by_cases hl : chainLabel s.S.phase = true
  · rw [advance_chain s hl]
    exact Phase.remaining_succ hl
  cases hphase : s.S.phase <;> simp only [hphase, chainLabel, not_true_eq_false] at hl
  case idle => exact absurd hphase hp
  case l1 =>
    rw [advance_l1 hphase]
    unfold afterRefresh
    split <;> simp [finish, endHalt, Phase.remaining]
  case i2 =>
    rw [advance_i2 hphase]
    unfold dispatchEdge dispatchPort
    repeat' split
    all_goals simp [finish, Phase.remaining]
  case i3 => simp [advance_i3 hphase, finish, Phase.remaining]
  case z12 => rw [advance_z12 hphase, endReset_S]; exact Nat.zero_lt_one

/-- No label names a public operation (R28). -/
theorem isPublic_of_nextMicro (hn : s.nextMicro = some i) : i.isPublic = false := by
  unfold nextMicro at hn
  cases hp : s.S.phase <;> simp only [hp, Option.some.injEq, reduceCtorEq] at hn <;> subst hn <;> rfl

/-- So does a micro-operation the label names, whatever the bus answers (R214). -/
theorem remaining_exec (hn : s.nextMicro = some i) (hs : exec i s = .next t) : t.S.phase.remaining < s.S.phase.remaining := by
  have hp : s.S.phase ≠ .idle := by
    intro hp
    unfold nextMicro at hn
    rw [hp] at hn
    cases hn
  have hidle : ∀ u : State, u.S.phase = .idle → u.S.phase.remaining < s.S.phase.remaining := fun u hu => by
    rw [hu]
    exact Phase.remaining_pos hp
  have hadvance : ∀ u : State, u.S.phase = s.S.phase →
      (s.afterMicro i u).S.phase.remaining < s.S.phase.remaining := fun u hu => by
    rw [afterMicro_own s u hn, ← hu]
    exact remaining_advance (s := u.record _) (hu ▸ hp)
  by_cases hi : busFree i = true
  · rw [exec_busFree s hi] at hs
    cases hs
    exact hadvance _ (s.S.apply_phase i)
  cases i
  case expInit =>
    cases hs
    unfold expInit
    split
    · exact hadvance _ (by simp)
    · exact hidle _ (by dsimp only; split <;> simp)
  case expRead =>
    rw [expRead_of_next hs]
    unfold expRead
    split
    · exact hadvance _ (by simp)
    · exact hidle _ (by dsimp only; split <;> simp)
  case expWrite b =>
    cases hs
    unfold expWrite
    split
    · exact hadvance _ (by simp)
    · exact hidle _ (by simp)
  case setSample b => cases hs; exact hadvance _ rfl
  case select | disconnect | status | irq | reset | halt => cases isPublic_of_nextMicro hn
  all_goals exact absurd rfl hi

/-- Away from IDLE the core makes a step of its own, nearer to IDLE. -/
theorem step_progress (hm : s.coreMoves) (ht : s.par.table.wf) (hp : s.S.phase ≠ .idle) :
    ∃ t, step s = .next t ∧ t.coreMoves ∧ t.par = s.par ∧ t.S.phase.remaining < s.S.phase.remaining := by
  obtain ⟨i, hn⟩ := Option.ne_none_iff_exists'.mp (mt idle_of_nextMicro hp)
  obtain ⟨t, hs⟩ := exec_total ht i
  exact ⟨t, (step_micro hm hn).trans hs, coreMoves_of_exec hm hs, (keeps_of_exec hs).par, remaining_exec hn hs⟩

/-- From any label the run back to IDLE is no longer than the label allows. -/
theorem run_to_idle {n : Nat} (hm : s.coreMoves) (ht : s.par.table.wf) (hn : s.S.phase.remaining ≤ n) :
    ∃ k ≤ n, ∃ t, Host.Core.run Sys2Proof.core k s = .next t ∧ t.S.phase = .idle := by
  induction n generalizing s with
  | zero =>
    refine ⟨0, le_rfl, s, rfl, ?_⟩
    by_contra hp
    obtain ⟨t, -, -, -, hlt⟩ := step_progress hm ht hp
    omega
  | succ n ih =>
    by_cases hp : s.S.phase = .idle
    · exact ⟨0, Nat.zero_le _, s, rfl, hp⟩
    · obtain ⟨t, hs, hmt, hpar, hlt⟩ := step_progress hm ht hp
      obtain ⟨k, hk, u, hrun, hidle⟩ := ih hmt (hpar ▸ ht) (by omega)
      exact ⟨k + 1, by omega, u, run_step k hs hrun, hidle⟩

end State

/-- Settles O60: sixteen is the longest a label allows. -/
theorem everyOperationEnds : Obligations.EveryOperationEnds := by
  unfold Obligations.EveryOperationEnds
  intro s hm ht
  obtain ⟨k, hk, t, hrun, hidle⟩ := State.run_to_idle hm ht s.S.phase.remaining_le
  exact ⟨k, t, hk, hrun, hidle⟩

end Sys2Proof.Machine
end
